-- ==== Sys2Proof/Word.lean ====
section
/-! DEFINITION. The word types of the ring: a byte, and the two- and four-byte fields of a frame (spec/12, R178). -/

namespace Sys2Proof

/-- One byte of a frame. -/
abbrev Byte := BitVec 8

/-- A two-byte field of a frame. -/
abbrev Half := BitVec 16

/-- A four-byte field of a frame. -/
abbrev Quad := BitVec 32

end Sys2Proof
end

