-- ==== Sys2Proof/Syntax.lean ====
section
/-! DEFINITION. The commands of the LQ-32: one constructor of Instr for each row of spec/opcode_table.json. The
operands of a request are its argument bytes, field by field, as R178 lays them out; a request command stands for a
REQUEST frame that passed its check and carries the part's own address (R171 row 2). -/

namespace Sys2Proof

/-- What ends a frame short on the receive port (R178). -/
inductive CutCause where
  | newOpening   -- an opening arrived before the frame in progress was whole
  | tooLong      -- the frame ran past 256 bytes
deriving DecidableEq, Repr

/-- Arguments of CHANNEL_SET (R178, code 1; R17, R21). -/
structure ChannelArgs where
  channel : Byte
  node : Byte
  point : Byte
  function : Byte
  offset : Byte
  delay : Half
  dwellMin : Half
  mergeGap : Half
  holdMax : Byte
  policy : Byte
  safeState : Byte
  source : Byte
deriving DecidableEq, Repr

/-- Arguments of INPUT_SET (R178, code 2; R18, R21). -/
structure InputArgs where
  input : Byte
  function : Byte
  offset : Byte
  activeLevel : Byte
  glitchMin : Byte
  limit : Byte
deriving DecidableEq, Repr

/-- Arguments of MAP_SET (R178, code 3; R19, R22). -/
structure MapArgs where
  index : Byte
  enable : Byte
  base : Half
  mask : Half
  first : Byte
deriving DecidableEq, Repr

/-- Arguments of SETTINGS_SET (R178, code 4; R20, R23). -/
structure SettingsArgs where
  driveNode : Byte
  feedNode : Byte
  noticeAddress : Byte
  motionTimeout : Byte
  cutMinimum : Half
  overspeed : Half
  debounce : Byte
  deliveryOffset : Byte
  boxDeadline : Byte
deriving DecidableEq, Repr

/-- One item of FORMAT_LOAD, ten bytes: its type and nine more (R178). -/
structure LoadItem where
  kind : Byte
  b1 : Byte
  b2 : Byte
  b3 : Byte
  b4 : Byte
  b5 : Byte
  b6 : Byte
  b7 : Byte
  b8 : Byte
  b9 : Byte
deriving DecidableEq, Repr

/-- Arguments of LOT_ADD (R178, code 10; R132). -/
structure LotArgs where
  id : Half
  format : Byte
  target : Quad
  batchSize : Half
  makeUp : Byte
deriving DecidableEq, Repr

/-- The commands, in the order of the opcode table (requests: `src` is the source address of the frame, `tag` its tag). -/
inductive Instr where
  | powerOnReset (strap : BitVec 4)
  | signalDetected
  | signalLost (inReceipt : Bool)
  | frameReceived (bytes : List Byte)
  | angle (src : Byte) (count : Half) (time : Half) (check : Half)
  | motionTimerExpiry
  | edge (src : Byte) (point : Byte) (level : Byte) (count : Half) (check : Half)
  | transmitDone (partialBytes : Nat)
  | requestUndecoded (src : Byte) (payload : List Byte)
  | channelSet (src tag : Byte) (a : ChannelArgs)
  | inputSet (src tag : Byte) (a : InputArgs)
  | mapSet (src tag : Byte) (a : MapArgs)
  | settingsSet (src tag : Byte) (a : SettingsArgs)
  | formatOpen (src tag id : Byte)
  | formatLoad (src tag id : Byte) (items : List LoadItem)
  | formatCommit (src tag id : Byte) (sum : Half)
  | formatErase (src tag id : Byte)
  | formatRead (src tag id page : Byte)
  | lotAdd (src tag : Byte) (a : LotArgs)
  | lotCancel (src tag : Byte) (id : Half) (makeUp : Byte)
  | lotRead (src tag selector : Byte) (id : Half) (place : Byte)
  | lineStart (src tag : Byte)
  | lineStop (src tag : Byte)
  | lineHalt (src tag : Byte)
  | lineClear (src tag : Byte)
  | lineReset (src tag : Byte)
  | manualSet (src tag channel level : Byte)
  | statusRead (src tag : Byte)
  | trackRead (src tag : Byte)
  | countersRead (src tag groups clear : Byte)
  | logRead (src tag : Byte) (first : Quad)
  | logClear (src tag : Byte) (sequence : Quad)
  | frameCutShort (cause : CutCause)
deriving DecidableEq, Repr

end Sys2Proof
end

