-- ==== Sys2Proof/Decode.lean ====
section
/-! DEFINITION. decodeTableWord (the opcode table gives no row any bits), and the wire codec of REQUEST frames that
R178 lays down: bytes to a command (decodeRequest, total) and a command to its payload (encodeRequest); the frame check
of R170. -/

namespace Sys2Proof

/-- No row of spec/opcode_table.json gives bits, so no word spells a command (log 27). -/
def decodeTableWord (_nbits _w : Nat) : Option Instr := none

/-! ### Byte order (R178: most significant byte first) -/

/-- The n low bytes of x, most significant first. -/
def bigEndian : Nat → Nat → List Byte
  | 0, _ => []
  | n + 1, x => BitVec.ofNat 8 (x / 256 ^ n) :: bigEndian n x

/-- A signed field of n bytes: the two's complement of its width (R178). -/
def bigEndianInt (n : Nat) (x : Int) : List Byte :=
  bigEndian n (x % (256 ^ n : Nat)).toNat

/-- Two bytes as a field. -/
def half (hi lo : Byte) : Half := hi ++ lo

/-- Four bytes as a field. -/
def quad (b3 b2 b1 b0 : Byte) : Quad := half b3 b2 ++ half b1 b0

/-- The bytes of a two-byte field. -/
def halfBytes (h : Half) : List Byte := [h.extractLsb' 8 8, h.extractLsb' 0 8]

/-- The bytes of a four-byte field. -/
def quadBytes (q : Quad) : List Byte :=
  [q.extractLsb' 24 8, q.extractLsb' 16 8, q.extractLsb' 8 8, q.extractLsb' 0 8]

/-! ### The frame opening (R178) -/

/-- The frame opening: nine bytes A5 hex, then 3C hex (R178). -/
def opening : List Byte := List.replicate 9 0xA5 ++ [0x3C]

/-- Whether bytes carry an opening, at any place. -/
def carriesOpening : List Byte → Bool
  | [] => false
  | b :: rest => opening.isPrefixOf (b :: rest) || carriesOpening rest

/-! ### The frame check (R170) -/

/-- One bit of the check: the polynomial x^16 + x^12 + x^5 + 1. -/
def checkBit (r : Half) : Half :=
  if r.msb then (r <<< 1) ^^^ 0x1021#16 else r <<< 1

/-- One byte, fed most significant bit first. -/
def checkByte (r : Half) (b : Byte) : Half :=
  let r := r ^^^ (b ++ 0#8)
  checkBit (checkBit (checkBit (checkBit (checkBit (checkBit (checkBit (checkBit r)))))))

/-- The check of R170 over the header and payload bytes: start FFFF hex, no inversion at the end. -/
def frameCheck (bytes : List Byte) : Half := bytes.foldl checkByte 0xFFFF#16

/-! ### Kind codes and the header -/

/-- Frame kinds of R178. -/
def kindAngle : Byte := 1
def kindEdge : Byte := 2
def kindOutput : Byte := 3
def kindTrim : Byte := 4
def kindDrive : Byte := 5
def kindRequest : Byte := 6
def kindResponse : Byte := 7
def kindNotice : Byte := 8

/-- The broadcast address (R168). -/
def broadcast : Byte := 63

/-- Destination, source, kind, length and payload of a frame: the bytes its check covers (R170, R178). -/
def frameBody (dst src kind : Byte) (payload : List Byte) : List Byte :=
  dst :: src :: kind :: BitVec.ofNat 8 payload.length :: payload

/-- The bytes of an ANGLE frame that its check covers (R178). -/
def angleBody (src : Byte) (count time : Half) : List Byte :=
  frameBody broadcast src kindAngle (halfBytes count ++ halfBytes time)

/-- The bytes of an EDGE frame that its check covers (R178). -/
def edgeBody (src point level : Byte) (count : Half) : List Byte :=
  frameBody broadcast src kindEdge (point :: level :: halfBytes count)

/-! ### Requests (R178, the request table) -/

/-- The ten bytes of a load item. -/
def LoadItem.bytes (i : LoadItem) : List Byte :=
  [i.kind, i.b1, i.b2, i.b3, i.b4, i.b5, i.b6, i.b7, i.b8, i.b9]

/-- The items of a FORMAT_LOAD: the bytes cut into tens; none where a rest is left. -/
def loadItems : List Byte → Option (List LoadItem)
  | [] => some []
  | k :: b1 :: b2 :: b3 :: b4 :: b5 :: b6 :: b7 :: b8 :: b9 :: rest =>
    (loadItems rest).map (⟨k, b1, b2, b3, b4, b5, b6, b7, b8, b9⟩ :: ·)
  | _ => none

/-- The request a payload spells: step 1 of R176. None where the code names no request or the length is wrong. -/
def decodeRequest (src : Byte) (payload : List Byte) : Option Instr :=
  match payload with
  | code :: tag :: args =>
    match code.toNat, args with
    | 1, [c, n, p, f, o, d1, d0, w1, w0, m1, m0, h, r, s, u] =>
      some (.channelSet src tag ⟨c, n, p, f, o, half d1 d0, half w1 w0, half m1 m0, h, r, s, u⟩)
    | 2, [c, f, o, l, g, k] => some (.inputSet src tag ⟨c, f, o, l, g, k⟩)
    | 3, [i, e, b1, b0, m1, m0, f] => some (.mapSet src tag ⟨i, e, half b1 b0, half m1 m0, f⟩)
    | 4, [d, f, n, m, c1, c0, o1, o0, b, s, x] =>
      some (.settingsSet src tag ⟨d, f, n, m, half c1 c0, half o1 o0, b, s, x⟩)
    | 5, [i] => some (.formatOpen src tag i)
    | 6, i :: count :: rest =>
      match loadItems rest with
      | some items => if items.length = count.toNat then some (.formatLoad src tag i items) else none
      | none => none
    | 7, [i, s1, s0] => some (.formatCommit src tag i (half s1 s0))
    | 8, [i] => some (.formatErase src tag i)
    | 9, [i, p] => some (.formatRead src tag i p)
    | 10, [i1, i0, f, t3, t2, t1, t0, b1, b0, m] =>
      some (.lotAdd src tag ⟨half i1 i0, f, quad t3 t2 t1 t0, half b1 b0, m⟩)
    | 11, [i1, i0, m] => some (.lotCancel src tag (half i1 i0) m)
    | 12, [k, i1, i0, m] => some (.lotRead src tag k (half i1 i0) m)
    | 13, [] => some (.lineStart src tag)
    | 14, [] => some (.lineStop src tag)
    | 15, [] => some (.lineHalt src tag)
    | 16, [] => some (.lineClear src tag)
    | 17, [] => some (.lineReset src tag)
    | 18, [c, l] => some (.manualSet src tag c l)
    | 19, [] => some (.statusRead src tag)
    | 20, [] => some (.trackRead src tag)
    | 21, [g, c] => some (.countersRead src tag g c)
    | 22, [f3, f2, f1, f0] => some (.logRead src tag (quad f3 f2 f1 f0))
    | 23, [q3, q2, q1, q0] => some (.logClear src tag (quad q3 q2 q1 q0))
    | _, _ => none
  | _ => none

/-- The payload of a request command: its code, tag and arguments (R178). None for a command that is not one of the 23
requests. -/
def encodeRequest : Instr → Option (List Byte)
  | .channelSet _ tag a =>
    some (1 :: tag :: a.channel :: a.node :: a.point :: a.function :: a.offset ::
      (halfBytes a.delay ++ halfBytes a.dwellMin ++ halfBytes a.mergeGap ++ [a.holdMax, a.policy, a.safeState, a.source]))
  | .inputSet _ tag a => some [2, tag, a.input, a.function, a.offset, a.activeLevel, a.glitchMin, a.limit]
  | .mapSet _ tag a => some (3 :: tag :: a.index :: a.enable :: (halfBytes a.base ++ halfBytes a.mask ++ [a.first]))
  | .settingsSet _ tag a =>
    some (4 :: tag :: a.driveNode :: a.feedNode :: a.noticeAddress :: a.motionTimeout ::
      (halfBytes a.cutMinimum ++ halfBytes a.overspeed ++ [a.debounce, a.deliveryOffset, a.boxDeadline]))
  | .formatOpen _ tag i => some [5, tag, i]
  | .formatLoad _ tag i items => some (6 :: tag :: i :: BitVec.ofNat 8 items.length :: items.flatMap LoadItem.bytes)
  | .formatCommit _ tag i sum => some (7 :: tag :: i :: halfBytes sum)
  | .formatErase _ tag i => some [8, tag, i]
  | .formatRead _ tag i p => some [9, tag, i, p]
  | .lotAdd _ tag a =>
    some (10 :: tag :: (halfBytes a.id ++ a.format :: (quadBytes a.target ++ halfBytes a.batchSize ++ [a.makeUp])))
  | .lotCancel _ tag i m => some (11 :: tag :: (halfBytes i ++ [m]))
  | .lotRead _ tag k i m => some (12 :: tag :: k :: (halfBytes i ++ [m]))
  | .lineStart _ tag => some [13, tag]
  | .lineStop _ tag => some [14, tag]
  | .lineHalt _ tag => some [15, tag]
  | .lineClear _ tag => some [16, tag]
  | .lineReset _ tag => some [17, tag]
  | .manualSet _ tag c l => some [18, tag, c, l]
  | .statusRead _ tag => some [19, tag]
  | .trackRead _ tag => some [20, tag]
  | .countersRead _ tag g c => some [21, tag, g, c]
  | .logRead _ tag f => some (22 :: tag :: quadBytes f)
  | .logClear _ tag q => some (23 :: tag :: quadBytes q)
  | .powerOnReset _ => none
  | .signalDetected => none
  | .signalLost _ => none
  | .frameReceived _ => none
  | .angle _ _ _ _ => none
  | .motionTimerExpiry => none
  | .edge _ _ _ _ _ => none
  | .transmitDone _ => none
  | .requestUndecoded _ _ => none
  | .frameCutShort _ => none

/-- The source address a request command carries. -/
def requestSource : Instr → Option Byte
  | .channelSet src _ _ => some src
  | .inputSet src _ _ => some src
  | .mapSet src _ _ => some src
  | .settingsSet src _ _ => some src
  | .formatOpen src _ _ => some src
  | .formatLoad src _ _ _ => some src
  | .formatCommit src _ _ _ => some src
  | .formatErase src _ _ => some src
  | .formatRead src _ _ _ => some src
  | .lotAdd src _ _ => some src
  | .lotCancel src _ _ _ => some src
  | .lotRead src _ _ _ _ => some src
  | .lineStart src _ => some src
  | .lineStop src _ => some src
  | .lineHalt src _ => some src
  | .lineClear src _ => some src
  | .lineReset src _ => some src
  | .manualSet src _ _ _ => some src
  | .statusRead src _ => some src
  | .trackRead src _ => some src
  | .countersRead src _ _ _ => some src
  | .logRead src _ _ => some src
  | .logClear src _ _ => some src
  | .requestUndecoded src _ => some src
  | .powerOnReset _ => none
  | .signalDetected => none
  | .signalLost _ => none
  | .frameReceived _ => none
  | .angle _ _ _ _ => none
  | .motionTimerExpiry => none
  | .edge _ _ _ _ _ => none
  | .transmitDone _ => none
  | .frameCutShort _ => none

end Sys2Proof
end

