-- ==== Sys2Proof/Config.lean ====
section
/-! DEFINITION. The constants of the part and its free values. A free value is an opaque function: what the spec
leaves open, no proof can see. -/

namespace Sys2Proof.Config

/-- Counts of one pitch (00, Pitch, angle and position). -/
abbrev pitchCounts : Nat := 4096
/-- Issue margin (00, Fixed margins and points). -/
abbrev issueMargin : Nat := 256
/-- Settle margin (00, Fixed margins and points). -/
abbrev settleMargin : Nat := 128
/-- Angle of the cut decision point within the pitch before the one decided (00; R135). -/
abbrev cutAngle : Nat := 1792
/-- Lead limit (00; R75). -/
abbrev leadLimit : Nat := 2047
/-- One past the largest 44-bit position (R1). -/
abbrev positionLimit : Nat := 2 ^ 44
/-- Window entries of the entry pool (R16). -/
abbrev windowPool : Nat := 512
/-- Check entries of the entry pool (R16). -/
abbrev checkPool : Nat := 256
/-- Places of the outbound command queue (R168). -/
abbrev outboundPlaces : Nat := 64
/-- Places of the management queue (R168). -/
abbrev managementPlaces : Nat := 16
/-- Bytes of the forward buffer (R168). -/
abbrev forwardBytes : Nat := 1024
/-- Records of the fault log (R157). -/
abbrev logPlaces : Nat := 16
/-- Lots of the lot table (R129). -/
abbrev lotPlaces : Nat := 8
/-- Entries of the box queue (R113). -/
abbrev boxPlaces : Nat := 2
/-- Bytes of results in one part of a response (R178). -/
abbrev partBytes : Nat := 235

/-- The n-th free choice of a run: the order the spec does not give (R7, R31, R62, R123, R159; log 2, 3, 4, 20, 38). -/
opaque pick : Nat → Nat

/-- The raw position after a sum past 2^44 − 1, as a function of that sum (R1 gives the range and no rule for leaving
it; log 5). -/
opaque rawBeyond : Nat → Nat

/-- A lot count after one more than its 32 bits hold, as a function of that number (R130 gives the width and no rule for
leaving it; log 6). -/
opaque countBeyond : Nat → Nat

/-- The birth pitch a cut decision gives past the last pitch number, as a function of the number that would follow (R1,
R56 and R135 give the range and no rule for leaving it; log 36). -/
opaque pitchBeyond : Nat → Nat

/-- What FORMAT_READ sends for the widths of an absent class, by the free index and the place (R30 and R178 give the
present byte and no value for them; log 35). -/
opaque absentWidth : Nat → Nat

/-- Whether an opening whose last byte is also the last byte of the frame in progress ends that frame short (R178 speaks
of an opening before the frame has reached its length; log 34). -/
opaque endOpeningCuts : Bool

/-- The point that an EDGE frame with a point byte above 15 is read as (R178 gives 0 to 15; log 9). -/
opaque oddPoint : Nat → Nat

/-- The level that an EDGE frame with a level byte above 1 is read as (R178 gives 0 and 1; log 9). -/
opaque oddLevel : Nat → Bool

/-- The byte read at a place that a short ANGLE or EDGE payload does not have (R178 gives four bytes; log 9). -/
opaque missingByte : Nat → Nat

end Sys2Proof.Config
end

