-- ==== Sys2Proof/Machine/State.lean ====
section
/-! DEFINITION. The state of the LQ-32 as plain data, block by block (spec/00, Block Diagram), and State.reset. -/

namespace Sys2Proof.Machine

/-- Why the model stops. No rule of spec/ leaves a command without an effect, so no command ends in a fault and the
type has no constructor (safe: nothing is hidden behind a stop). -/
inductive Fault where
deriving DecidableEq, Repr

/-- A command the model gives no meaning. -/
inductive Refusal where
  /-- Raised by an arm of exec for a row without a meaning (safe: the model says nothing of it). No arm raises it now. -/
  | notModelled (mnemonic : String)
deriving DecidableEq, Repr

/-! ### Names -/

/-- Line states (R145). -/
inductive LineState where
  | idle | run | runout | safe
deriving DecidableEq, Repr

/-- Position states (R1). -/
inductive PosState where
  | unknown | known
deriving DecidableEq, Repr

/-- Lock states (R36). -/
inductive LockState where
  | off | holdoff | search | acquire | locked
deriving DecidableEq, Repr

/-- Recorded level of an actuator channel (R71). -/
inductive Level where
  | none | off | on
deriving DecidableEq, Repr

/-- Actuator functions (R17). -/
inductive ActFunction where
  | knife | fold | gum | patch | gate | finger | general
deriving DecidableEq, Repr

/-- Reject policies (R17). -/
inductive RejectPolicy where
  | fireAlways | skipReject
deriving DecidableEq, Repr

/-- Safe states of a channel (R17). -/
inductive SafeState where
  | off | on | hold
deriving DecidableEq, Repr

/-- Who drives a channel (R17). -/
inductive Source where
  | disabled | cam | manual
deriving DecidableEq, Repr

/-- Input functions (R18). -/
inductive InFunction where
  | unused | mark | check | splice | boxTaken
deriving DecidableEq, Repr

/-- A level of an input (R18, R94). -/
inductive InLevel where
  | low | high
deriving DecidableEq, Repr

/-- Format states (R24). -/
inductive FormatState where
  | empty | open | valid | invalid
deriving DecidableEq, Repr

/-- Expectation of a check entry (R24). -/
inductive Expectation where
  | absent | present
deriving DecidableEq, Repr

/-- Final values of a record (R56). -/
inductive Final where
  | good | diverted | undiverted
deriving DecidableEq, Repr

/-- Defect reasons, in the order of the counters (R56, R163). -/
inductive Reason where
  | markMissing | markUnreadable | regUnlocked | regError | splice | check | rest
deriving DecidableEq, Repr

/-- Lot states (R130). -/
inductive LotState where
  | queued | cutting | closed
deriving DecidableEq, Repr

/-- Make-up outcomes (R140). -/
inductive MakeUp where
  | notNeeded | disabled | tableFull | keyTaken | made
deriving DecidableEq, Repr

/-- Results of LOT_CANCEL (R133). -/
inductive CancelResult where
  | removed | closed | ended
deriving DecidableEq, Repr

/-- Effect classes of a fault (R158). -/
inductive Effect where
  | none | stop | safe
deriving DecidableEq, Repr

/-- Fault kinds (R158). -/
inductive FaultKind where
  | motionLost | reverse | positionJump | overspeed | outboundOverrun | linkDown | regLost | trimLimit
  | consecutiveDefect | undivertedReject | boxLate | boxOverflow | formatInvalid | formatCheck | stationMissing
deriving DecidableEq, Repr

/-- Stop reasons (R145). -/
inductive StopReason where
  | none | request | fault (sequence : Nat) | changeover | lotsExhausted
deriving DecidableEq, Repr

/-- Status codes of a response (R176). -/
inductive Status where
  | accepted | badState | badValue | inUse | full | unknownId | checkFail | timing | stale
deriving DecidableEq, Repr

/-- Commands of a DRIVE frame (R154). -/
inductive DriveCommand where
  | run | stop | halt
deriving DecidableEq, Repr

/-- A lot's key: id and make-up number (R130). -/
structure LotKey where
  id : Nat
  makeUp : Nat
deriving DecidableEq, Repr

/-! ### Position unit (R1) -/

/-- One interval of the speed history: signed Δcounts and Δt in µs (R1, R10). -/
structure Interval where
  counts : Int
  time : Nat
deriving DecidableEq, Repr

/-- State of POS (R1). -/
structure Pos where
  state : PosState
  raw : Nat
  held : Nat
  lastCount : Nat
  lastTime : Nat
  history : List Interval   -- oldest first
  s : Nat
  v : Nat
  overRun : Nat             -- overspeed run count
  timer : Option Nat        -- the motion timer: none is stopped, else the ms it was loaded with (log 26)
deriving DecidableEq, Repr

/-! ### Format store (R16) -/

/-- An actuator channel (R17). -/
structure Channel where
  node : Nat
  point : Nat
  function : ActFunction
  offset : Nat
  delay : Nat
  dwellMin : Nat
  mergeGap : Nat
  holdMax : Nat
  policy : RejectPolicy
  safeState : SafeState
  source : Source
deriving DecidableEq, Repr

/-- An input channel (R18). -/
structure Input where
  function : InFunction
  offset : Nat
  activeLevel : InLevel
  glitchMin : Nat
  limit : Nat
deriving DecidableEq, Repr

/-- An input map entry (R19). -/
structure MapEntry where
  enable : Bool
  base : BitVec 10
  mask : BitVec 10
  first : Nat
deriving DecidableEq, Repr

/-- The nine line settings (R20). -/
structure Settings where
  driveNode : Nat
  feedNode : Nat
  noticeAddress : Nat
  motionTimeout : Nat
  cutMinimum : Nat
  overspeed : Nat
  debounce : Nat
  deliveryOffset : Nat
  boxDeadline : Nat
deriving DecidableEq, Repr

/-- A mark class: minimum and maximum width (R24). -/
structure MarkClass where
  min : Nat
  max : Nat
deriving DecidableEq, Repr

/-- A window entry of a program (R24). -/
structure WindowEntry where
  channel : Fin 24
  on : Nat
  off : Nat
deriving DecidableEq, Repr

/-- A check entry of a program (R24). -/
structure CheckEntry where
  input : Fin 16
  start : Nat
  stop : Nat
  expect : Expectation
  paired : Option (Fin 24)
deriving DecidableEq, Repr

/-- A variant program: window entries in ascending channel order, check entries in ascending input order (R24, R30). -/
structure Program where
  windows : List WindowEntry
  checks : List CheckEntry
deriving DecidableEq, Repr

/-- A format (R24). Its id is its place in the table plus 1. `required` has bit k set for member k. -/
structure Format where
  state : FormatState
  storedSum : Nat
  sizeClass : Nat
  required : BitVec 24
  nominal : Nat
  half : Nat
  classes : Vector (Option MarkClass) 4
  lockWindow : Nat
  warn : Nat
  reject : Nat
  gain : Nat
  stepMax : Nat
  trimMax : Nat
  lossLimit : Nat
  holdoff : Nat
  span : Nat
  acceptUnlocked : Bool
  programs : Vector Program 4
deriving DecidableEq, Repr

/-- State of FST (R16). The free room of the entry pool is computed from the formats. -/
structure Store where
  channels : Vector Channel 24
  inputs : Vector Input 16
  map : Vector MapEntry 16
  settings : Settings
  formats : Vector Format 16
deriving DecidableEq, Repr

/-! ### Registration unit (R36) -/

/-- A mark's candidate: the leading-edge position and the width, or none for the word open (R36). -/
structure Candidate where
  lead : Int
  width : Option Int
deriving DecidableEq, Repr

/-- A pending mark (R36, R38). -/
structure PendingMark where
  serial : Nat
  birth : Nat
  start : Int
  stop : Int
  candidate : Option Candidate
deriving DecidableEq, Repr

/-- The settings in force (R37). -/
structure RegSettings where
  lockWindow : Nat
  gain : Nat
  stepMax : Nat
  trimMax : Nat
  lossLimit : Nat
  holdoff : Nat
  span : Nat
deriving DecidableEq, Repr

/-- State of REG (R36). `openCandidate` is the leading position of an open pulse that became a candidate and whose
width is still to come (implied by R39; log 17). -/
structure Reg where
  lock : LockState
  matchCount : Nat
  missCount : Nat
  holdoff : Nat
  span : Nat
  trim : Int
  trimClass : Option Nat
  inForce : Option RegSettings
  lost : Bool
  marks : List PendingMark
  openCandidate : Option Int
deriving DecidableEq, Repr

/-! ### Tracking queue (R55) -/

/-- A set of defect reasons (R56). -/
structure Defects where
  markMissing : Bool
  markUnreadable : Bool
  regUnlocked : Bool
  regError : Bool
  splice : Bool
  check : Bool
  rest : Bool
deriving DecidableEq, Repr

/-- A batch slot (R56). -/
structure Slot where
  batch : Nat
  index : Nat
  batchEnd : Bool
deriving DecidableEq, Repr

/-- A blank record (R56). -/
structure Record where
  serial : Nat
  birth : Nat
  lot : LotKey
  format : Fin 16
  variant : Option (Fin 4)
  error : Option Int
  poisoned : Bool
  defects : Defects
  failed : List (Fin 16)
  suppressed : List (Fin 24)
  final : Option Final
  slot : Option Slot
  unmarkedEnd : Bool
deriving DecidableEq, Repr

/-- State of TRQ (R55). -/
structure Trq where
  queue : List Record    -- head first
  serial : Nat
deriving DecidableEq, Repr

/-! ### Cam engine (R71) -/

/-- A window of an edge schedule: HELD where it has no angles, else SCHEDULED with (on, off) (R71). -/
structure Window where
  serial : Nat
  birth : Nat
  target : Nat
  angles : Option (Nat × Nat)
deriving DecidableEq, Repr

/-- An active OFF (R71). -/
structure ActiveOff where
  serial : Nat
  offPitch : Nat
  offAngle : Nat
  minOff : Int
  held : Bool
deriving DecidableEq, Repr

/-- State of CAM for one channel (R71). -/
structure CamChannel where
  schedule : List Window
  activeOff : Option ActiveOff
  level : Level
  merges : Nat           -- gate merge count
deriving DecidableEq, Repr

/-! ### Check unit (R93) -/

/-- Pulse state with its leading position (R93). -/
inductive Pulse where
  | none | pending (lead : Int) | open (lead : Int)
deriving DecidableEq, Repr

/-- An alternative of a pending check (R93). -/
structure Alternative where
  variant : Fin 4
  start : Int
  stop : Int
  expect : Expectation
  paired : Option (Fin 24)
  seen : Bool
  passed : Bool
  fallback : Bool
deriving DecidableEq, Repr

/-- A pending check (R93). -/
structure PendingCheck where
  serial : Nat
  birth : Nat
  target : Nat
  resolved : Bool
  alternatives : List Alternative
deriving DecidableEq, Repr

/-- State of CHK for one input channel (R93). -/
structure ChkInput where
  pulse : Pulse
  pending : List PendingCheck
  lastClosed : Option (Int × Int)
  consecutive : Nat
deriving DecidableEq, Repr

/-! ### Lot unit (R112, R113, R129, R130) -/

/-- A lot record with its batch state (R130, R112). -/
structure Lot where
  key : LotKey
  format : Fin 16
  target : Nat
  batchSize : Nat
  makeUp : Bool
  state : LotState
  cut : Nat
  finalGood : Nat
  stacked : Nat
  diverted : Nat
  undiverted : Nat
  purged : Nat
  inFlight : Nat
  openBatch : Option (Nat × Nat)   -- batch number, slots assigned
  nextBatch : Nat
  completed : Nat
  delivered : Nat
  contaminated : Bool
deriving DecidableEq, Repr

/-- A batch record (R113, R120). -/
structure Batch where
  key : LotKey
  number : Nat
  good : Nat
  contaminated : Bool
  unmarkedEnd : Bool
  short : Bool
deriving DecidableEq, Repr

/-- An entry of the box queue (R113). -/
structure BoxEntry where
  batch : Batch
  deadline : Nat
deriving DecidableEq, Repr

/-- State of LOT (R129). -/
structure LotUnit where
  table : List Lot
  runClass : Option Nat
  boxes : List BoxEntry
deriving DecidableEq, Repr

/-! ### Line supervisor (R145, R157, R163) -/

/-- The detail of a fault (R158). -/
inductive Detail where
  | number (n : Int)
  | key (k : LotKey)
deriving DecidableEq, Repr

/-- A fault record (R158). -/
structure FaultRecord where
  sequence : Nat
  kind : FaultKind
  effect : Effect
  line : LineState
  pitch : Nat
  detail : Detail
deriving DecidableEq, Repr

/-- A stop or halt reported and not yet taken (R159 step 4; R135, R147). -/
inductive Deferred where
  | stop (r : StopReason)
  | halt (r : StopReason)
deriving DecidableEq, Repr

/-- State of SUP (R145, R157, R163). `deferred` is empty between commands (log 14). -/
structure Sup where
  line : LineState
  reason : StopReason
  lastSequence : Nat
  log : List FaultRecord
  overflow : Nat
  counters : Vector Nat 38
  deferred : List Deferred
deriving DecidableEq, Repr

/-! ### Ring interface (R168) -/

/-- A frame of the outbound command queue (R87, R47, R154). -/
inductive OutFrame where
  | output (node point : Nat) (on : Bool) (immediate : Bool) (channel : Fin 24) (count serial : Nat)
  | trim (node : Nat) (trim : Int)
  | drive (node : Nat) (command : DriveCommand)
deriving DecidableEq, Repr

/-- The contents of a LOT_DONE notice (R139). -/
structure LotDone where
  key : LotKey
  format : Fin 16
  target : Nat
  batchSize : Nat
  cut : Nat
  stacked : Nat
  diverted : Nat
  undiverted : Nat
  purged : Nat
  completed : Nat
  shortfall : Nat
  outcome : MakeUp
  makeUpKey : Option LotKey
deriving DecidableEq, Repr

/-- A notice (R154, R160, R121, R139). -/
inductive Notice where
  | fault (record : FaultRecord) (stored : Bool)
  | lineState (new previous : LineState) (reason : StopReason) (position : PosState) (pitch : Nat)
  | batchDone (batch : Batch) (queued : Bool) (entries : Nat)
  | lotDone (d : LotDone)
deriving DecidableEq, Repr

/-- One RESPONSE frame (R176, R178). -/
structure Response where
  dst : Byte
  code : Byte
  tag : Byte
  status : Status
  part : Nat
  last : Bool
  results : List Byte
deriving DecidableEq, Repr

/-- A frame of the management queue (R175). -/
inductive MgmtFrame where
  | response (r : Response)
  | notice (dst : Nat) (n : Notice)
deriving DecidableEq, Repr

/-- The sources of the transmitter (R173). -/
inductive TxSource where
  | forward | outbound | management
deriving DecidableEq, Repr

/-- The transmitter: idle, or sending the bytes of one frame, opening and check included (R168, R173). -/
inductive Transmitter where
  | idle
  | sending (source : TxSource) (bytes : List Byte)
deriving DecidableEq, Repr

/-- State of RIF (R168). A frame of the forward buffer is held from its destination byte to its check.
`partialBytes` counts the bytes of frames not yet whole that the buffer holds (log 10). -/
structure Rif where
  own : Byte
  linkUp : Bool
  linkDownFlag : Bool
  forward : List (List Byte)
  partialBytes : Nat
  outbound : List OutFrame
  overrun : Bool
  management : List MgmtFrame
  reserved : Nat
  tx : Transmitter
deriving DecidableEq, Repr

/-! ### The whole part -/

/-- The state of the LQ-32, with the queue of commands that wait (first in, first out) and the index of the next free
value (log 2). -/
structure State where
  pos : Pos
  store : Store
  reg : Reg
  trq : Trq
  cam : Vector CamChannel 24
  chk : Vector ChkInput 16
  lot : LotUnit
  sup : Sup
  rif : Rif
  free : Nat
  pending : List Instr
deriving DecidableEq, Repr

/-! ### Reset values -/

/-- POS at power-on (R1). -/
def Pos.reset : Pos :=
  { state := .unknown, raw := 0, held := 0, lastCount := 0, lastTime := 0, history := [], s := 0, v := 0, overRun := 0,
    timer := none }

/-- An actuator channel at power-on (R16). -/
def Channel.reset : Channel :=
  { node := 0, point := 0, function := .general, offset := 0, delay := 0, dwellMin := 0, mergeGap := 0, holdMax := 0,
    policy := .fireAlways, safeState := .off, source := .disabled }

/-- An input channel at power-on (R16). -/
def Input.reset : Input :=
  { function := .unused, offset := 0, activeLevel := .high, glitchMin := 0, limit := 0 }

/-- A map entry at power-on (R16). -/
def MapEntry.reset : MapEntry := { enable := false, base := 0, mask := 0, first := 0 }

/-- The line settings at power-on (R20). -/
def Settings.reset : Settings :=
  { driveNode := 1, feedNode := 2, noticeAddress := 0, motionTimeout := 20, cutMinimum := 60, overspeed := 1800,
    debounce := 4, deliveryOffset := 12, boxDeadline := 40 }

/-- A program without entries. -/
def Program.empty : Program := { windows := [], checks := [] }

/-- A format without content, every parameter at its value after FORMAT_OPEN (R24, R27, R29). -/
def Format.blank (st : FormatState) : Format :=
  { state := st, storedSum := 0, sizeClass := 0, required := 0, nominal := 0, half := 0,
    classes := Vector.replicate 4 none, lockWindow := 0, warn := 0, reject := 0, gain := 0, stepMax := 0, trimMax := 0,
    lossLimit := 0, holdoff := 0, span := 0, acceptUnlocked := false, programs := Vector.replicate 4 Program.empty }

/-- FST at power-on (R16). -/
def Store.reset : Store :=
  { channels := Vector.replicate 24 Channel.reset, inputs := Vector.replicate 16 Input.reset,
    map := Vector.replicate 16 MapEntry.reset, settings := Settings.reset,
    formats := Vector.replicate 16 (Format.blank .empty) }

/-- REG at power-on (R36). -/
def Reg.reset : Reg :=
  { lock := .off, matchCount := 0, missCount := 0, holdoff := 0, span := 0, trim := 0, trimClass := none, inForce := none,
    lost := false, marks := [], openCandidate := none }

/-- TRQ at power-on (R55). -/
def Trq.reset : Trq := { queue := [], serial := 0 }

/-- A channel of CAM at power-on (R71). -/
def CamChannel.reset : CamChannel := { schedule := [], activeOff := none, level := .none, merges := 0 }

/-- An input of CHK at power-on (R93). -/
def ChkInput.reset : ChkInput := { pulse := .none, pending := [], lastClosed := none, consecutive := 0 }

/-- LOT at power-on (R129, R113). -/
def LotUnit.reset : LotUnit := { table := [], runClass := none, boxes := [] }

/-- SUP at power-on (R145, R157, R163). -/
def Sup.reset : Sup :=
  { line := .idle, reason := .none, lastSequence := 0, log := [], overflow := 0, counters := Vector.replicate 38 0,
    deferred := [] }

/-- RIF at power-on with the strap pins at a value (R168, R172). -/
def Rif.reset (strap : BitVec 4) : Rif :=
  { own := 32 + strap.setWidth 8, linkUp := false, linkDownFlag := false, forward := [], partialBytes := 0, outbound := [],
    overrun := false, management := [], reserved := 0, tx := .idle }

/-- Every block at power-on with the strap pins at a value; the queue of commands and the free index as given. -/
def State.powerOn (strap : BitVec 4) (free : Nat) (pending : List Instr) : State :=
  { pos := Pos.reset, store := Store.reset, reg := Reg.reset, trq := Trq.reset, cam := Vector.replicate 24 CamChannel.reset,
    chk := Vector.replicate 16 ChkInput.reset, lot := LotUnit.reset, sup := Sup.reset, rif := Rif.reset strap, free := free,
    pending := pending }

/-- The part right after reset. DESIGN CHOICE: the strap pins read 0 and the free index is 0 (log 23). -/
def State.reset : State := State.powerOn 0 0 []

end Sys2Proof.Machine
end

