-- ==== Sys2Proof/Machine/Layouts.lean ====
section
/-! DEFINITION. The byte layouts of what the part sends (spec/12, R178): codes, line frames, notices, record and status
layouts. -/

namespace Sys2Proof.Machine

/-! ### Codes (spec/12, 12.6 and the tables of 12.2 to 12.5) -/

def LineState.code : LineState → Nat
  | .idle => 0 | .run => 1 | .runout => 2 | .safe => 3
def PosState.code : PosState → Nat
  | .unknown => 0 | .known => 1
def LockState.code : LockState → Nat
  | .off => 0 | .holdoff => 1 | .search => 2 | .acquire => 3 | .locked => 4
def Level.code : Level → Nat
  | .none => 0 | .off => 1 | .on => 2
def FormatState.code : FormatState → Nat
  | .empty => 0 | .open => 1 | .valid => 2 | .invalid => 3
def Expectation.code : Expectation → Nat
  | .absent => 0 | .present => 1
def LotState.code : LotState → Nat
  | .queued => 0 | .cutting => 1 | .closed => 2
def MakeUp.code : MakeUp → Nat
  | .notNeeded => 0 | .disabled => 1 | .tableFull => 2 | .keyTaken => 3 | .made => 4
def CancelResult.code : CancelResult → Nat
  | .removed => 0 | .closed => 1 | .ended => 2
def Effect.code : Effect → Nat
  | .none => 0 | .stop => 1 | .safe => 2
def FaultKind.code : FaultKind → Nat
  | .motionLost => 1 | .reverse => 2 | .positionJump => 3 | .overspeed => 4 | .outboundOverrun => 5 | .linkDown => 6
  | .regLost => 7 | .trimLimit => 8 | .consecutiveDefect => 9 | .undivertedReject => 10 | .boxLate => 11
  | .boxOverflow => 12 | .formatInvalid => 13 | .formatCheck => 14 | .stationMissing => 15
def StopReason.code : StopReason → Nat
  | .none => 0 | .request => 1 | .fault _ => 2 | .changeover => 3 | .lotsExhausted => 4
/-- The fault sequence sent with a stop reason: 0 unless FAULT (R178, 12.5). -/
def StopReason.sequence : StopReason → Nat
  | .fault n => n | .none => 0 | .request => 0 | .changeover => 0 | .lotsExhausted => 0
def Status.code : Status → Nat
  | .accepted => 0 | .badState => 1 | .badValue => 2 | .inUse => 3 | .full => 4 | .unknownId => 5 | .checkFail => 6
  | .timing => 7 | .stale => 8
def DriveCommand.code : DriveCommand → Nat
  | .run => 1 | .stop => 2 | .halt => 3
def Final.code : Option Final → Nat
  | none => 0 | some .good => 1 | some .diverted => 2 | some .undiverted => 3
def Pulse.code : Pulse → Nat
  | .none => 0 | .pending _ => 1 | .open _ => 2

/-- A flag byte of weight w: w for yes, 0 for no. R178 gives these codes for the last part and the make-up, and the weights
of the flags bytes; for its other yes or no bytes it gives none, and 1 and 0 are the model's (DESIGN CHOICE; log 42). -/
def flag (w : Nat) (b : Bool) : Nat := if b then w else 0

/-- A format's number: its place in the table plus 1. -/
def formatNumber (f : Fin 16) : Nat := f.val + 1

/-- The sum of 2 to the power of each reason's bit (R178, 12.4). -/
def Defects.code (d : Defects) : Nat :=
  flag 1 d.markMissing + flag 2 d.markUnreadable + flag 4 d.regUnlocked + flag 8 d.regError + flag 16 d.splice +
    flag 32 d.check + flag 64 d.rest

/-! ### Line frames (12.2) -/

/-- Destination, kind and payload of an outbound frame. -/
def OutFrame.dst : OutFrame → Nat
  | .output n _ _ _ _ _ _ => n | .trim n _ => n | .drive n _ => n
def OutFrame.kind : OutFrame → Byte
  | .output .. => kindOutput | .trim .. => kindTrim | .drive .. => kindDrive
def OutFrame.payload : OutFrame → List Byte
  | .output _ point on immediate channel count serial =>
    bigEndian 1 point ++ bigEndian 1 (flag 1 on) ++ bigEndian 1 (flag 1 immediate) ++ bigEndian 1 channel.val ++
      bigEndian 2 count ++ bigEndian 2 serial
  | .trim _ t => bigEndianInt 2 t
  | .drive _ c => bigEndian 1 c.code

/-! ### Records (12.4) -/

def LotKey.bytes (k : LotKey) : List Byte := bigEndian 2 k.id ++ bigEndian 1 k.makeUp

/-- A batch record, 9 bytes. -/
def Batch.bytes (b : Batch) : List Byte :=
  b.key.bytes ++ bigEndian 3 b.number ++ bigEndian 2 b.good ++
    bigEndian 1 (flag 1 b.contaminated + flag 2 b.unmarkedEnd + flag 4 b.short)

/-- A fault's detail, 4 bytes. -/
def Detail.bytes : Detail → List Byte
  | .number n => bigEndianInt 4 n
  | .key k => k.bytes ++ [0]

/-- A fault record, 15 bytes. -/
def FaultRecord.bytes (r : FaultRecord) : List Byte :=
  bigEndian 4 r.sequence ++ bigEndian 1 r.kind.code ++ bigEndian 1 r.effect.code ++ bigEndian 1 r.line.code ++
    bigEndian 4 r.pitch ++ r.detail.bytes

/-- Two entries to a byte, the earlier in the high four bits (12.4, failed list). -/
def nibblePairs : Nat → List (Fin 16) → List Byte
  | 0, _ => []
  | n + 1, [] => 0 :: nibblePairs n []
  | n + 1, [a] => BitVec.ofNat 8 (a.val * 16) :: nibblePairs n []
  | n + 1, a :: b :: rest => BitVec.ofNat 8 (a.val * 16 + b.val) :: nibblePairs n rest

/-- A list of n bytes: a shorter one filled up with 0 (R178: places beyond a count carry 0). -/
def padTo (n : Nat) (l : List Byte) : List Byte := (l ++ List.replicate n 0).take n

/-- A blank record, 57 bytes. -/
def Record.bytes (r : Record) : List Byte :=
  bigEndian 4 r.serial ++ bigEndian 4 r.birth ++ r.lot.bytes ++ bigEndian 1 (formatNumber r.format) ++
    bigEndian 1 (match r.variant with | some v => v.val | none => 255) ++
    bigEndianInt 2 (match r.variant, r.error with | some _, some e => e | _, _ => 0) ++
    bigEndian 1 (Final.code r.final) ++
    bigEndian 1 (flag 1 r.poisoned + flag 2 r.unmarkedEnd + flag 4 r.slot.isSome +
      flag 8 (match r.slot with | some s => s.batchEnd | none => false)) ++
    bigEndian 1 r.defects.code ++
    bigEndian 3 (match r.slot with | some s => s.batch | none => 0) ++
    bigEndian 2 (match r.slot with | some s => s.index | none => 0) ++
    bigEndian 1 r.failed.length ++ nibblePairs 8 r.failed ++
    bigEndian 1 r.suppressed.length ++ padTo 24 (r.suppressed.map fun c => BitVec.ofNat 8 c.val)

/-- A lot record of LOT_READ, 60 bytes: its place, the number of lots, the lot and its committed count. -/
def Lot.bytes (place count : Nat) (l : Lot) (committed : Nat) : List Byte :=
  bigEndian 1 place ++ bigEndian 1 count ++ l.key.bytes ++ bigEndian 1 (formatNumber l.format) ++ bigEndian 4 l.target ++
    bigEndian 2 l.batchSize ++ bigEndian 1 (flag 1 l.makeUp) ++ bigEndian 1 l.state.code ++
    bigEndian 4 l.cut ++ bigEndian 4 l.finalGood ++ bigEndian 4 l.stacked ++ bigEndian 4 l.diverted ++
    bigEndian 4 l.undiverted ++ bigEndian 4 l.purged ++ bigEndian 4 l.inFlight ++ bigEndian 4 committed ++
    bigEndian 3 (match l.openBatch with | some (n, _) => n | none => 0) ++
    bigEndian 2 (match l.openBatch with | some (_, k) => k | none => 0) ++
    bigEndian 3 l.nextBatch ++ bigEndian 3 l.completed ++ bigEndian 2 l.delivered ++ bigEndian 1 (flag 1 l.contaminated)

/-! ### Notices and responses (12.3, 12.5) -/

/-- A LOT_DONE notice after its kind byte. -/
def LotDone.bytes (d : LotDone) : List Byte :=
  d.key.bytes ++ bigEndian 1 (formatNumber d.format) ++ bigEndian 4 d.target ++ bigEndian 2 d.batchSize ++
    bigEndian 4 d.cut ++ bigEndian 4 d.stacked ++ bigEndian 4 d.diverted ++ bigEndian 4 d.undiverted ++
    bigEndian 4 d.purged ++ bigEndian 3 d.completed ++ bigEndian 4 d.shortfall ++ bigEndian 1 d.outcome.code ++
    (match d.makeUpKey with | some k => k.bytes | none => [0, 0, 0])

/-- The payload of a notice: its kind byte and contents. -/
def Notice.payload : Notice → List Byte
  | .fault r stored => 1 :: (r.bytes ++ bigEndian 1 (flag 1 stored))
  | .lineState new previous reason position pitch =>
    2 :: (bigEndian 1 new.code ++ bigEndian 1 previous.code ++ bigEndian 1 reason.code ++ bigEndian 4 reason.sequence ++
      bigEndian 1 position.code ++ bigEndian 4 pitch)
  | .batchDone b queued entries => 3 :: (b.bytes ++ bigEndian 1 (flag 1 queued) ++ bigEndian 1 entries)
  | .lotDone d => 4 :: d.bytes

/-- The payload of one RESPONSE frame: the response head and the part's results. -/
def Response.payload (r : Response) : List Byte :=
  r.code :: r.tag :: (bigEndian 1 r.status.code ++ bigEndian 1 r.part ++ bigEndian 1 (flag 1 r.last) ++ r.results)

def MgmtFrame.dst : MgmtFrame → Byte
  | .response r => r.dst | .notice d _ => BitVec.ofNat 8 d
def MgmtFrame.kind : MgmtFrame → Byte
  | .response _ => kindResponse | .notice _ _ => kindNotice
def MgmtFrame.payload : MgmtFrame → List Byte
  | .response r => r.payload | .notice _ n => n.payload

/-! ### Frames on the wire (12.1) -/

/-- A frame the part sends: opening, covered bytes, and the check RIF computes (R170, R178). -/
def wireFrame (own dst kind : Byte) (payload : List Byte) : List Byte :=
  opening ++ frameBody dst own kind payload ++ halfBytes (frameCheck (frameBody dst own kind payload))

/-- The bytes an outbound frame is sent as. -/
def OutFrame.wire (own : Byte) (f : OutFrame) : List Byte := wireFrame own (BitVec.ofNat 8 f.dst) f.kind f.payload

/-- The bytes a management frame is sent as. -/
def MgmtFrame.wire (own : Byte) (f : MgmtFrame) : List Byte := wireFrame own f.dst f.kind f.payload

/-- The length of a frame with a payload: opening, four header bytes, payload, check (R178). -/
def frameLength (payload : List Byte) : Nat := 16 + payload.length

/-- The results cut into parts of at most 235 bytes, every part but the last full; at least one part (R178). -/
def cutParts : Nat → List Byte → List (List Byte)
  | 0, results => [results]
  | n + 1, results =>
    if results.length ≤ Config.partBytes then [results]
    else results.take Config.partBytes :: cutParts n (results.drop Config.partBytes)

/-- How many parts a cut of that many bytes gives: ceil(n / 235), at least 1 (R178). -/
def partCount (bytes : Nat) : Nat := max 1 ((bytes + 234) / 235)

end Sys2Proof.Machine
end

