-- ==== Sys2Proof/Machine/Ops.lean ====
section
/-! DEFINITION. The named operations every block uses: counters (R163), the transmitter and the queues of RIF
(R173 to R175), notices (R167), raising a fault (R159), free choices (log 2), and how a request is served (R176). -/

namespace Sys2Proof.Machine

/-! ### Vectors -/

/-- A table with one place changed by a function. -/
def updateAt {α : Type} {n : Nat} (v : Vector α n) (i : Fin n) (f : α → α) : Vector α n :=
  v.set i (f (v.get i))

/-! ### Counters (R163) -/

/-- The counter numbers of R163. -/
abbrev ctrBadCheck : Fin 38 := 0
abbrev ctrAngleForeign : Fin 38 := 1
abbrev ctrEdgesUnmapped : Fin 38 := 2
abbrev ctrEdgesLate : Fin 38 := 3
abbrev ctrEdgesStray : Fin 38 := 4
abbrev ctrGlitches : Fin 38 := 5
abbrev ctrMarksExtra : Fin 38 := 6
abbrev ctrBoxSpurious : Fin 38 := 7
abbrev ctrCommandsLate : Fin 38 := 8
abbrev ctrLeadClamps : Fin 38 := 9
abbrev ctrDwellExtends : Fin 38 := 10
abbrev ctrRegWarnings : Fin 38 := 11
abbrev ctrDefectsAfterFinal : Fin 38 := 12
abbrev ctrMgmtDropped : Fin 38 := 36
abbrev ctrNoticesDropped : Fin 38 := 37

/-- The counter of a defect reason: 13 to 19 in the order of R163. -/
def ctrReason : Reason → Fin 38
  | .markMissing => 13 | .markUnreadable => 14 | .regUnlocked => 15 | .regError => 16 | .splice => 17 | .check => 18
  | .rest => 19

/-- The DEFECT_RUNS counter of an input channel: 20 to 35 (R163). -/
def ctrDefectRuns (i : Fin 16) : Fin 38 := ⟨20 + i.val, by omega⟩

/-- An increment that saturates at 65,535 (R163). -/
def saturate (n : Nat) : Nat := if n < 65535 then n + 1 else n

/-- One device counter incremented (R163). -/
def State.bump (c : Fin 38) (s : State) : State :=
  { s with sup := { s.sup with counters := updateAt s.sup.counters c saturate } }

/-- A device counter incremented where a condition holds. -/
def State.bumpIf (p : Bool) (c : Fin 38) (s : State) : State := if p then s.bump c else s

/-! ### Readings of the state -/

/-- The pitch number of the held position (00, Pitch, angle and position). -/
def State.pitch (s : State) : Nat := s.pos.held / Config.pitchCounts

def State.channel (s : State) (i : Fin 24) : Channel := s.store.channels.get i
def State.input (s : State) (i : Fin 16) : Input := s.store.inputs.get i
def State.format (s : State) (f : Fin 16) : Format := s.store.formats.get f
def State.settings (s : State) : Settings := s.store.settings

/-- The line is RUN or RUNOUT. -/
def State.running (s : State) : Bool := s.sup.line == .run || s.sup.line == .runout

/-! ### Free choices (log 2) -/

/-- The next free value, and the state with the index moved on. -/
def State.choose (s : State) : Nat × State := (Config.pick s.free, { s with free := s.free + 1 })

/-- Two works on different state, in the order a free value gives: the spec gives none (log 4). -/
def eitherOrder (f g : State → State) (s : State) : State :=
  let (n, s) := s.choose
  if n % 2 = 0 then g (f s) else f (g s)

/-! ### The transmitter and its arbiter (R173) -/

/-- The free room of the forward buffer (R168, R173; log 10). -/
def Rif.freeRoom (r : Rif) : Nat :=
  Config.forwardBytes - ((r.forward.map fun f => f.length + 10).sum + r.partialBytes)

/-- The third source of R173. -/
def Rif.arbitrateManagement (r : Rif) : Rif :=
  match r.management with
  | f :: rest =>
    if frameLength f.payload ≤ r.freeRoom then
      { r with management := rest, tx := .sending .management (f.wire r.own) }
    else r
  | [] => r

/-- The second source of R173, then the third. A frame that leaves the outbound queue clears the overrun mark (R174).
DESIGN CHOICE: an outbound head that does not fit the free room does not qualify, and the third source is asked (log 39). -/
def Rif.arbitrateOwn (r : Rif) : Rif :=
  match r.outbound with
  | f :: rest =>
    if frameLength f.payload ≤ r.freeRoom then
      { r with outbound := rest, overrun := false, tx := .sending .outbound (f.wire r.own) }
    else r.arbitrateManagement
  | [] => r.arbitrateManagement

/-- The arbiter: an idle transmitter is handed to the first source that qualifies (R173). A frame leaves its queue as
its transmission begins. -/
def Rif.arbitrate (r : Rif) : Rif :=
  match r.tx with
  | .sending _ _ => r
  | .idle =>
    match r.forward with
    | f :: rest => { r with forward := rest, tx := .sending .forward (opening ++ f) }
    | [] => r.arbitrateOwn

/-- A whole frame joins the forward buffer (R171, R173). A frame that passes its check always has room (R173; log 11). -/
def Rif.forwardFrame (r : Rif) (bytes : List Byte) : Rif :=
  { r with forward := r.forward ++ [bytes] }.arbitrate

/-- A frame joins the tail of the management queue (R175). -/
def Rif.pushManagement (r : Rif) (f : MgmtFrame) : Rif :=
  { r with management := r.management ++ [f] }.arbitrate

/-- A frame joins the tail of the outbound command queue (R174). -/
def Rif.pushOutbound (r : Rif) (f : OutFrame) : Rif :=
  { r with outbound := r.outbound ++ [f] }.arbitrate

/-- The management places that are free and not reserved (R175, R176). -/
def Rif.freePlaces (r : Rif) : Nat := Config.managementPlaces - (r.management.length + r.reserved)

/-! ### Notices (R167, R175) -/

/-- A notice is placed in a free, unreserved place, addressed to the notice address of the moment, or dropped and
counted (R167, R175). -/
def State.notice (n : Notice) (s : State) : State :=
  if 0 < s.rif.freePlaces then
    { s with rif := s.rif.pushManagement (.notice s.settings.noticeAddress n) }
  else s.bump ctrNoticesDropped

/-! ### Faults (R159, R160) -/

/-- What SUP has to apply for an effect class, with the fault's sequence (R159 step 4). -/
def effectOf (e : Effect) (sequence : Nat) : List Deferred :=
  match e with
  | .none => []
  | .stop => [.stop (.fault sequence)]
  | .safe => [.halt (.fault sequence)]

/-- A fault at a pitch is raised: steps 1 to 3 of R159; its effect waits for step 4. -/
def State.raiseAt (kind : FaultKind) (effect : Effect) (pitch : Nat) (detail : Detail) (s : State) : State :=
  let atLimit := s.sup.lastSequence == 4294967295
  let sequence := if atLimit then s.sup.lastSequence else s.sup.lastSequence + 1
  let record : FaultRecord := ⟨sequence, kind, effect, s.sup.line, pitch, detail⟩
  let stored := !atLimit && s.sup.log.length < Config.logPlaces
  let sup := { s.sup with
    lastSequence := sequence
    log := if stored then s.sup.log ++ [record] else s.sup.log
    overflow := if stored then s.sup.overflow else min 255 (s.sup.overflow + 1)
    deferred := s.sup.deferred ++ effectOf effect sequence }
  { s with sup := sup }.notice (.fault record stored)

/-- A fault with the pitch number of the held position (R158). -/
def State.raise (kind : FaultKind) (effect : Effect) (detail : Detail) (s : State) : State :=
  s.raiseAt kind effect s.pitch detail

/-- A stop or halt that reaches SUP as the operation under way ends (R135, R159). -/
def State.defer (d : Deferred) (s : State) : State :=
  { s with sup := { s.sup with deferred := s.sup.deferred ++ [d] } }

/-! ### The outbound command queue (R174) -/

/-- A frame is placed on the outbound command queue; against a full queue it is lost, and the first such loss raises
OUTBOUND_OVERRUN with the kind of the lost frame as detail (R174). -/
def State.placeOutbound (f : OutFrame) (s : State) : State :=
  if s.rif.outbound.length < Config.outboundPlaces then
    { s with rif := s.rif.pushOutbound f }
  else if s.rif.overrun then s
  else
    { s with rif := { s.rif with overrun := true } }.raise .outboundOverrun .safe (.number f.kind.toNat)

/-- SUP places a DRIVE frame for the drive node of the moment (R154). -/
def State.placeDrive (c : DriveCommand) (s : State) : State :=
  s.placeOutbound (.drive s.settings.driveNode c)

/-- REG places a TRIM frame carrying the whole trim (R47). -/
def State.placeTrim (s : State) : State :=
  s.placeOutbound (.trim s.settings.feedNode s.reg.trim)

/-! ### LINE_STATE notices (R154) -/

/-- The LINE_STATE notice of a change from `previous` to the line state of the moment (R154). -/
def State.lineNotice (previous : LineState) (s : State) : State :=
  s.notice (.lineState s.sup.line previous s.sup.reason s.pos.state s.pitch)

/-! ### Requests (R176) -/

/-- What a request's owner answers: the status and the results, one list of bytes a part. -/
structure Reply where
  status : Status
  parts : List (List Byte)
deriving DecidableEq, Repr

/-- A refusal or answer without results. -/
def Reply.plain (st : Status) : Reply := ⟨st, [[]]⟩

/-- An answer of one part. -/
def Reply.one (st : Status) (results : List Byte) : Reply := ⟨st, [results]⟩

/-- The RESPONSE frames of a reply, placed in order; parts are numbered from 1 (R176, R178). -/
def Rif.respond (r : Rif) (dst code tag : Byte) (st : Status) : Nat → List (List Byte) → Rif
  | _, [] => r
  | n, p :: rest =>
    (r.pushManagement (.response ⟨dst, code, tag, st, n, rest.isEmpty, p⟩)).respond dst code tag st (n + 1) rest

/-- Steps 2 to 4 of R176: room for `parts` frames is reserved, the owner acts, the response is placed and the
reservation ends. Without room the request is dropped unexecuted and counted. -/
def execute (src code tag : Byte) (parts : Nat) (owner : State → State × Reply) (s : State) : State :=
  if s.rif.freePlaces < parts then s.bump ctrMgmtDropped
  else
    let reserved := s.rif.reserved
    let out := owner { s with rif := { s.rif with reserved := reserved + parts } }
    let rif := (out.1.rif.respond src code tag out.2.status 1 out.2.parts)
    { out.1 with rif := { rif with reserved := reserved } }

/-- A request frame taken off the ring: nothing arrives while the link is DOWN (R169; log 8); a frame with the part's
own source address has been round the ring and is removed (R171 row 1); the rest is executed. -/
def takeRequest (src code tag : Byte) (parts : Nat) (owner : State → State × Reply) (s : State) : State :=
  if s.rif.linkUp then
    let s := { s with rif := { s.rif with partialBytes := 0 } }
    if src = s.rif.own then s else execute src code tag parts owner s
  else s

end Sys2Proof.Machine
end

