-- ==== Sys2Proof/Machine/Tracking.lean ====
section
/-! DEFINITION. The tracking queue's operations on records (spec/04, R56 to R63): finding, writing, the committed count. -/

namespace Sys2Proof.Machine

/-- No defect reason (R56). -/
def Defects.none : Defects := ⟨false, false, false, false, false, false, false⟩

/-- Whether a reason is held. -/
def Defects.has (d : Defects) : Reason → Bool
  | .markMissing => d.markMissing | .markUnreadable => d.markUnreadable | .regUnlocked => d.regUnlocked
  | .regError => d.regError | .splice => d.splice | .check => d.check | .rest => d.rest

/-- A reason added; there is no write that removes one (R60). -/
def Defects.add (d : Defects) : Reason → Defects
  | .markMissing => { d with markMissing := true } | .markUnreadable => { d with markUnreadable := true }
  | .regUnlocked => { d with regUnlocked := true } | .regError => { d with regError := true }
  | .splice => { d with splice := true } | .check => { d with check := true } | .rest => { d with rest := true }

/-- A record is a reject while its defect set holds a reason (R56). -/
def Record.reject (r : Record) : Bool :=
  r.defects.markMissing || r.defects.markUnreadable || r.defects.regUnlocked || r.defects.regError || r.defects.splice ||
    r.defects.check || r.defects.rest

/-- The record of a serial, if it is in the queue. -/
def State.findRecord (s : State) (serial : Nat) : Option Record :=
  s.trq.queue.find? fun r => r.serial == serial

/-- The record of a serial changed by a function. -/
def State.writeRecord (serial : Nat) (f : Record → Record) (s : State) : State :=
  { s with trq := { s.trq with queue := s.trq.queue.map fun r => if r.serial = serial then f r else r } }

/-- A write that carries a defect reason (R59, R60, R62): refused and counted in DEFECTS_AFTER_FINAL for a missing or
frozen record; else the reason is added and counted once, and `more` writes what comes with it. -/
def State.writeDefect (serial : Nat) (reason : Reason) (more : Record → Record) (s : State) : State :=
  match s.findRecord serial with
  | none => s.bump ctrDefectsAfterFinal
  | some r =>
    if r.final.isSome then s.bump ctrDefectsAfterFinal
    else
      (s.writeRecord serial fun r => more { r with defects := r.defects.add reason }).bumpIf (!r.defects.has reason)
        (ctrReason reason)

/-- A reason without anything else (R59). -/
def State.addDefect (serial : Nat) (reason : Reason) (s : State) : State := s.writeDefect serial reason id

/-- An entry for a list kept in order of arrival without duplicates (R59). -/
def appendNew {α : Type} [DecidableEq α] (l : List α) (a : α) : List α := if a ∈ l then l else l ++ [a]

/-- A suppressed-list entry; a frozen or missing record takes none, and no counter moves (R59, R62). -/
def State.writeSuppressed (serial : Nat) (channel : Fin 24) (s : State) : State :=
  s.writeRecord serial fun r =>
    if r.final.isSome then r else { r with suppressed := appendNew r.suppressed channel }

/-- The CHECK write of R105: the reason and the failed-list entry in one write. -/
def State.writeCheckDefect (serial : Nat) (input : Fin 16) (s : State) : State :=
  s.writeDefect serial .check fun r => { r with failed := appendNew r.failed input }

/-- Whether a record of a lot has neither reached its final point nor become a reject (R63). -/
def Record.counts (key : LotKey) (r : Record) : Bool := r.lot == key && !r.reject && r.final.isNone

/-- The committed count of a lot (R63). -/
def State.committed (s : State) (l : Lot) : Nat := l.finalGood + s.trq.queue.countP (Record.counts l.key)

/-- The record TRQ builds for a cut (R56, R57). -/
def Record.born (serial pitch : Nat) (key : LotKey) (format : Fin 16) : Record :=
  { serial := serial, birth := pitch, lot := key, format := format, variant := none, error := none, poisoned := false,
    defects := Defects.none, failed := [], suppressed := [], final := none, slot := none, unmarkedEnd := false }

end Sys2Proof.Machine
end

