-- ==== Sys2Proof/Machine/Lots.lean ====
section
/-! DEFINITION. The lot unit's records (spec/07 and spec/08): final points, batches, the box queue, retirement, lot end
and make-up, the purge. -/

namespace Sys2Proof.Machine

/-! ### The lot table -/

/-- The lot of a key. -/
def State.findLot (s : State) (k : LotKey) : Option Lot := s.lot.table.find? fun l => l.key == k

/-- The lot of a key changed by a function. -/
def State.writeLot (k : LotKey) (f : Lot → Lot) (s : State) : State :=
  { s with lot := { s.lot with table := s.lot.table.map fun l => if l.key = k then f l else l } }

/-- A 32-bit lot count incremented (R130); past its width a free value (log 6). -/
def countUp (n : Nat) : Nat := if n < 4294967295 then n + 1 else Config.countBeyond (n + 1) % 4294967296

/-- A lot record at creation (R130, R112). -/
def Lot.create (key : LotKey) (format : Fin 16) (target batchSize : Nat) (makeUp : Bool) : Lot :=
  { key := key, format := format, target := target, batchSize := batchSize, makeUp := makeUp, state := .queued, cut := 0,
    finalGood := 0, stacked := 0, diverted := 0, undiverted := 0, purged := 0, inFlight := 0, openBatch := none,
    nextBatch := 1, completed := 0, delivered := 0, contaminated := false }

/-- The CUTTING lot (R130: at most one). -/
def State.cuttingLot (s : State) : Option Lot := s.lot.table.find? fun l => l.state == .cutting

/-- The head QUEUED lot (R131). -/
def State.headQueued (s : State) : Option Lot := s.lot.table.find? fun l => l.state == .queued

/-! ### Final points (R114 to R117) -/

/-- Whether the record is the only one of its lot still without a final value (R116, R117). -/
def State.lastUnsettled (s : State) (r : Record) : Bool :=
  s.trq.queue.all fun x => x.serial == r.serial || x.lot != r.lot || x.final.isSome

/-- A GOOD final point's slot and batch end for a lot, with the lot after it (R115, R116). -/
def goodFinal (l : Lot) (last : Bool) : Slot × Lot :=
  let batch := match l.openBatch with | some b => b | none => (l.nextBatch, 0)
  let next := match l.openBatch with | some _ => l.nextBatch | none => l.nextBatch + 1
  let index := batch.2 + 1
  let good := l.finalGood + 1
  let batchEnd := l.batchSize ≤ index || l.target ≤ good || (l.state == .closed && last)
  (⟨batch.1, index, batchEnd⟩,
    { l with nextBatch := next, finalGood := good, openBatch := if batchEnd then none else some (batch.1, index) })

/-- The final point of a record that is not a reject (R115, R116): one write to the record, and its lot's batch state. -/
def State.settleGood (r : Record) (s : State) : State :=
  match s.findLot r.lot with
  | none => s.writeRecord r.serial fun x => { x with final := some .good }
  | some l =>
    let out := goodFinal l (s.lastUnsettled r)
    (s.writeRecord r.serial fun x => { x with final := some .good, slot := some out.1 }).writeLot r.lot fun _ => out.2

/-- Whether a reject's final point sets unmarked end (R117). -/
def State.unmarks (s : State) (r : Record) : Bool :=
  match s.findLot r.lot with
  | none => false
  | some l => l.state == .closed && s.lastUnsettled r && l.openBatch.isSome

/-- The final point of a reject the gate diverts (R114, R117). -/
def State.settleDiverted (r : Record) (s : State) : State :=
  let unmarked := s.unmarks r
  let s := s.writeRecord r.serial fun x => { x with final := some .diverted, unmarkedEnd := unmarked }
  if unmarked then s.writeLot r.lot fun l => { l with openBatch := none } else s

/-- The final point of a reject the gate rests for: REST, UNDIVERTED_REJECT and unmarked end (R114, R117). -/
def State.settleUndiverted (r : Record) (s : State) : State :=
  let unmarked := s.unmarks r
  let s := s.writeRecord r.serial fun x =>
    { x with final := some .undiverted, defects := x.defects.add .rest, unmarkedEnd := unmarked }
  let s := s.bumpIf (!r.defects.has .rest) (ctrReason .rest)
  let s := if unmarked then s.writeLot r.lot fun l => { l with openBatch := none } else s
  s.raise .undivertedReject .stop (.key r.lot)

/-! ### Batch completion and the box queue (R120 to R125) -/

/-- The batch record of a completion (R120). -/
def batchOf (l : Lot) (unmarkedEnd : Bool) : Batch :=
  { key := l.key, number := l.completed + 1, good := l.delivered, contaminated := l.contaminated,
    unmarkedEnd := unmarkedEnd, short := l.delivered < l.batchSize }

/-- A completion: the lot's batch state moves on (R120), the batch joins the box queue or raises BOX_OVERFLOW (R121,
R124), and a BATCH_DONE notice is placed. -/
def State.completeBatch (k : LotKey) (unmarkedEnd : Bool) (s : State) : State :=
  match s.findLot k with
  | none => s
  | some l =>
    let b := batchOf l unmarkedEnd
    let s := s.writeLot k fun x => { x with completed := x.completed + 1, delivered := 0, contaminated := false }
    if s.lot.boxes.length < Config.boxPlaces then
      let boxes := s.lot.boxes ++ [⟨b, s.settings.boxDeadline⟩]
      { s with lot := { s.lot with boxes := boxes } }.notice (.batchDone b true boxes.length)
    else
      (s.raise .boxOverflow .safe (.key k)).notice (.batchDone b false s.lot.boxes.length)

/-- BOX_LATE for an entry (R123). -/
def State.raiseLate (s : State) (e : BoxEntry) : State := s.raise .boxLate .stop (.key e.batch.key)

/-- BOX_LATE for the entries whose counters one retirement brought to 0. No rule orders two of them: a free value does
(R123, R159; log 38). -/
def State.raiseAllLate (late : List BoxEntry) (s : State) : State :=
  match late with
  | [] => s
  | [e] => s.raiseLate e
  | l =>
    let (n, s) := s.choose
    (if n % 2 = 0 then l else l.reverse).foldl State.raiseLate s

/-- Step 1 of a retirement: the box deadlines (R118, R123). -/
def State.moveDeadlines (s : State) : State :=
  State.raiseAllLate (s.lot.boxes.filter fun e => e.deadline == 1)
    { s with lot := { s.lot with boxes := s.lot.boxes.map fun e => { e with deadline := e.deadline - 1 } } }

/-- A box-taken pulse (R125). -/
def State.boxTaken (s : State) : State :=
  match s.lot.boxes with
  | [] => s.bump ctrBoxSpurious
  | _ :: rest => { s with lot := { s.lot with boxes := rest } }

/-! ### Lot end and make-up (R122, R139, R140) -/

/-- The make-up lot's key (R140). -/
def makeUpKey (k : LotKey) : LotKey := ⟨k.id, if k.makeUp < 15 then k.makeUp + 1 else 15⟩

/-- The make-up outcome of an ending lot (R140). -/
def State.makeUpOutcome (s : State) (l : Lot) : MakeUp :=
  if l.target - l.stacked = 0 then .notNeeded
  else if l.makeUp = false then .disabled
  else if Config.lotPlaces ≤ s.lot.table.length then .tableFull
  else if s.lot.table.any fun x => x.key != l.key && x.key == makeUpKey l.key then .keyTaken
  else .made

/-- A lot placed behind the CLOSED and CUTTING lots and `skip` QUEUED ones (R131, R140). -/
def placeMakeUp (skip : Nat) (new : Lot) : List Lot → List Lot
  | [] => [new]
  | l :: rest =>
    if l.state = .queued then
      match skip with
      | 0 => new :: l :: rest
      | n + 1 => l :: placeMakeUp n new rest
    else l :: placeMakeUp skip new rest

/-- The contents of a lot's LOT_DONE notice (R139). -/
def lotDoneOf (l : Lot) (outcome : MakeUp) : LotDone :=
  { key := l.key, format := l.format, target := l.target, batchSize := l.batchSize, cut := l.cut, stacked := l.stacked,
    diverted := l.diverted, undiverted := l.undiverted, purged := l.purged, completed := l.completed,
    shortfall := l.target - l.stacked, outcome := outcome,
    makeUpKey := if outcome = .made then some (makeUpKey l.key) else none }

/-- A lot's end, one operation (R139): its last batch (R122), shortfall, make-up outcome, LOT_DONE notice, removal. `skip`
counts the make-up lots made earlier in the same purge; the answer says whether one more was made. -/
def State.endLot (k : LotKey) (skip : Nat) (s : State) : State × Bool :=
  match s.findLot k with
  | none => (s, false)
  | some l =>
    let s := if 0 < l.delivered ∨ l.contaminated then s.completeBatch k true else s
    let l := (s.findLot k).getD l
    let outcome := s.makeUpOutcome l
    let s := s.notice (.lotDone (lotDoneOf l outcome))
    let rest := s.lot.table.filter fun x => x.key != k
    let table :=
      if outcome = .made then
        placeMakeUp skip (Lot.create (makeUpKey k) l.format (l.target - l.stacked) l.batchSize true) rest
      else rest
    ({ s with lot := { s.lot with table := table } }, outcome == .made)

/-- A lot ends if it is CLOSED with none in flight (R139). -/
def State.endIfDone (k : LotKey) (s : State) : State :=
  match s.findLot k with
  | none => s
  | some l => if l.state = .closed ∧ l.inFlight = 0 then (s.endLot k 0).1 else s

/-! ### Retirement (R118, R119) -/

/-- The counting of a retired record (R118, R119). -/
def Lot.retire (l : Lot) (f : Option Final) : Lot :=
  let l := { l with inFlight := l.inFlight - 1 }
  match f with
  | some .good => { l with stacked := l.stacked + 1, delivered := l.delivered + 1 }
  | some .diverted => { l with diverted := countUp l.diverted }
  | some .undiverted => { l with undiverted := countUp l.undiverted, contaminated := true }
  | none => l

/-- Whether a record carries batch end yes (R85, R121). -/
def Record.batchEnd (r : Record) : Bool := match r.slot with | some x => x.batchEnd | none => false

/-- LOT's operation at a retirement: the count, then steps 1 to 3 of R118. -/
def State.retireLot (r : Record) (s : State) : State :=
  let s := s.writeLot r.lot fun l => l.retire r.final
  let s := s.moveDeadlines
  let s :=
    if r.batchEnd then s.completeBatch r.lot false
    else if r.unmarkedEnd then s.completeBatch r.lot true
    else s
  s.endIfDone r.lot

/-! ### The purge (R67, R126, R142) -/

/-- A purged record taken out of its lot (R142), its slot released (R126). -/
def Lot.purge (l : Lot) (r : Record) : Lot :=
  { l with
    purged := countUp l.purged
    inFlight := l.inFlight - 1
    finalGood := if r.final = some .good then l.finalGood - 1 else l.finalGood
    openBatch :=
      match l.openBatch, r.slot with
      | some (n, k), some x => if n = x.batch then some (n, k - 1) else some (n, k)
      | b, _ => b }

/-- A lot's batch state set back to its delivery point (R126). -/
def Lot.toDeliveryPoint (l : Lot) : Lot :=
  if 0 < l.delivered then
    { l with openBatch := some (l.completed + 1, l.delivered), nextBatch := l.completed + 2 }
  else { l with openBatch := none, nextBatch := l.completed + 1 }

/-- The CLOSED lots of the keys end in order, make-up lots behind those made before; the answer counts the ends (R142). -/
def endAll : List LotKey → Nat → Nat → State → State × Nat
  | [], _, ended, s => (s, ended)
  | k :: rest, skip, ended, s =>
    let out := s.endLot k skip
    endAll rest (if out.2 then skip + 1 else skip) (ended + 1) out.1

/-- The keys of the lots that end after a purge, in table order (R142). -/
def State.endingKeys (s : State) : List LotKey :=
  (s.lot.table.filter fun l => l.state == .closed && l.inFlight == 0).map Lot.key

end Sys2Proof.Machine
end

