-- ==== Sys2Proof/Machine/Formats.lean ====
section
/-! DEFINITION. What the format store computes from its content (spec/02, R19, R24, R25, R30, R32 to R35): programs,
naming, use, pool room, field and timing checks, the content sum. -/

namespace Sys2Proof.Machine

/-! ### Programs (R24) -/

/-- The four variants. -/
def variants : List (Fin 4) := [0, 1, 2, 3]

/-- A program is present when it holds at least one entry (R24). -/
def Program.present (p : Program) : Bool := !p.windows.isEmpty || !p.checks.isEmpty

def Program.window? (p : Program) (c : Fin 24) : Option WindowEntry := p.windows.find? fun w => w.channel == c
def Program.check? (p : Program) (i : Fin 16) : Option CheckEntry := p.checks.find? fun k => k.input == i

def Format.program (f : Format) (v : Fin 4) : Program := f.programs.get v

/-- The variants whose program is present. -/
def Format.presentVariants (f : Format) : List (Fin 4) := variants.filter fun v => (f.program v).present

/-- A channel's window entry is the same in every present program (R33 check 2, R72): the entry, or none. -/
def Format.commonWindow (f : Format) (c : Fin 24) : Option WindowEntry :=
  match f.presentVariants with
  | [] => none
  | v :: rest =>
    match (f.program v).window? c with
    | none => none
    | some w => if rest.all fun u => (f.program u).window? c == some w then some w else none

/-- A channel has a window entry in at least one present program (R72). -/
def Format.hasWindow (f : Format) (c : Fin 24) : Bool :=
  f.presentVariants.any fun v => ((f.program v).window? c).isSome

/-- Every window entry with its variant, in the order of R30. -/
def Format.allWindows (f : Format) : List (Fin 4 × WindowEntry) :=
  variants.flatMap fun v => (f.program v).windows.map fun w => (v, w)

/-- Every check entry with its variant, in the order of R30. -/
def Format.allChecks (f : Format) : List (Fin 4 × CheckEntry) :=
  variants.flatMap fun v => (f.program v).checks.map fun k => (v, k)

/-- A window entry replaces the one of its channel or joins in ascending channel order (R24, R28, R30). -/
def insertWindow (w : WindowEntry) : List WindowEntry → List WindowEntry
  | [] => [w]
  | x :: rest =>
    if x.channel = w.channel then w :: rest
    else if w.channel < x.channel then w :: x :: rest
    else x :: insertWindow w rest

/-- A check entry replaces the one of its input or joins in ascending input order (R24, R28, R30). -/
def insertCheck (k : CheckEntry) : List CheckEntry → List CheckEntry
  | [] => [k]
  | x :: rest =>
    if x.input = k.input then k :: rest
    else if k.input < x.input then k :: x :: rest
    else x :: insertCheck k rest

/-! ### The entry pool (R16) -/

def Format.windowCount (f : Format) : Nat := f.allWindows.length
def Format.checkCount (f : Format) : Nat := f.allChecks.length

/-- Window entries of the pool that no format holds (R16). -/
def Store.freeWindows (st : Store) : Nat := Config.windowPool - (st.formats.toList.map Format.windowCount).sum
/-- Check entries of the pool that no format holds (R16). -/
def Store.freeChecks (st : Store) : Nat := Config.checkPool - (st.formats.toList.map Format.checkCount).sum

/-! ### Naming and use (R24, R25) -/

/-- A format names an actuator channel (R24). -/
def Format.namesChannel (f : Format) (c : Fin 24) : Bool :=
  f.required.getLsbD c.val || (f.allWindows.any fun (_, w) => w.channel == c) ||
    f.allChecks.any fun (_, k) => k.paired == some c

/-- A format names an input channel, given the input table: by a check entry, or, in state VALID or INVALID, as the
MARK channel (R24). -/
def Format.namesInput (f : Format) (inputs : Vector Input 16) (i : Fin 16) : Bool :=
  (f.allChecks.any fun (_, k) => k.input == i) ||
    ((f.state == .valid || f.state == .invalid) && (inputs.get i).function == .mark)

/-- A format is in use while a lot record or a blank record names it (R25, R69). -/
def State.inUse (s : State) (f : Fin 16) : Bool :=
  (s.lot.table.any fun l => l.format == f) || s.trq.queue.any fun r => r.format == f

/-- The sixteen formats. -/
def formatIds : List (Fin 16) := List.finRange 16
/-- The sixteen inputs, ascending. -/
def inputIds : List (Fin 16) := List.finRange 16
/-- The twenty-four actuator channels, ascending. -/
def channelIds : List (Fin 24) := List.finRange 24

/-- A change of one format. -/
def State.setFormat (f : Fin 16) (g : Format → Format) (s : State) : State :=
  { s with store := { s.store with formats := updateAt s.store.formats f g } }

/-- The VALID formats that a test picks become INVALID (R21, R23). -/
def Store.invalidate (st : Store) (ids : List (Fin 16)) : Store :=
  { st with formats := ids.foldl (fun v f => updateAt v f fun x => { x with state := .invalid }) st.formats }

/-! ### The content sum (R34) -/

def MarkClass.value : Option MarkClass → Nat
  | none => 0 | some c => c.min + c.max

def windowValue (v : Fin 4) (w : WindowEntry) : Nat := v.val + w.channel.val + w.on + w.off

def checkValue (v : Fin 4) (k : CheckEntry) : Nat :=
  v.val + k.input.val + k.start + k.stop + k.expect.code + (match k.paired with | some c => c.val | none => 0)

/-- The content sum of format number `id` (R34). -/
def Format.contentSum (id : Nat) (f : Format) : Nat :=
  (f.windowCount + f.checkCount + id + f.sizeClass + f.nominal + f.half + f.lockWindow + f.warn + f.reject + f.gain +
    f.stepMax + f.trimMax + f.lossLimit + f.holdoff + f.span + flag 1 f.acceptUnlocked + f.required.toNat +
    (f.classes.toList.map MarkClass.value).sum + (f.allWindows.map fun (v, w) => windowValue v w).sum +
    (f.allChecks.map fun (v, k) => checkValue v k).sum) % 65536

/-! ### Channels by function -/

/-- The channel that holds a function (R17: at most one for KNIFE, GATE and FINGER). -/
def Store.channelOf (st : Store) (fn : ActFunction) : Option (Fin 24) :=
  channelIds.find? fun c => (st.channels.get c).function == fn

/-- A channel is configured when its source is CAM or MANUAL (R17). -/
def Channel.configured (c : Channel) : Bool := c.source != .disabled

/-! ### Commit checks (R32, R33)

A check's failures are the subjects it fails on, each a variant and a channel where there is one. An empty list is a
pass. Where several subjects fail, R31 does not say which is named: a free choice decides (log 20). -/

/-- What a failed check concerns: variant and channel number (R31). -/
abbrev Subject := Option (Fin 4) × Option Nat

/-- No subject. -/
def nobody : Subject := (none, none)

/-- One check of a list: passed, or failed with its possible subjects. -/
def failIf (p : Bool) (subjects : List Subject) : List Subject := if p then subjects else []

/-- The present classes of a format. -/
def Format.presentClasses (f : Format) : List (Fin 4 × MarkClass) :=
  variants.filterMap fun v => (f.classes.get v).map fun c => (v, c)

/-- Check 4 of R32: pairs of present classes that share a width. -/
def Format.overlaps (f : Format) : List Subject :=
  f.presentClasses.flatMap fun (v, c) => f.presentClasses.filterMap fun (u, d) =>
    if u ≠ v ∧ c.min ≤ d.max ∧ d.min ≤ c.max then some (some v, none) else none

/-- A subject list for a station channel: with no variant, or with any present one (log 20). -/
def Format.stationSubjects (f : Format) (c : Fin 24) : List Subject :=
  (none, some c.val) :: f.presentVariants.map fun v => (some v, some c.val)

/-- The functions of the three station channels. -/
def stationFunctions : List ActFunction := [.knife, .gate, .finger]

/-- Check 9 of R32 for one of the three functions: no configured channel has it. Whether a DISABLED channel that has it
is then concerned is open: it is named, or none is (log 20). -/
def Store.stationAbsent (st : Store) (fn : ActFunction) : List Subject :=
  let holders := channelIds.filter fun c => (st.channels.get c).function == fn
  if holders.any fun c => (st.channels.get c).configured then []
  else nobody :: holders.map fun c => (none, some c.val)

/-- Check 10 of R32 for one of the three channels: a program lacks its window, or two differ in its angles. Which variant
is then concerned, if any, is open (log 20). -/
def Format.stationFailures (f : Format) (c : Fin 24) : List Subject :=
  if f.presentVariants.isEmpty || (f.commonWindow c).isSome then [] else f.stationSubjects c

/-- The field checks of R32 in order, each with the subjects it fails on. -/
def fieldChecks (st : Store) (f : Format) : List (List Subject) :=
  [ failIf (f.sizeClass = 0 || f.half = 0 || f.lockWindow = 0 || f.warn = 0 || f.reject = 0 || f.stepMax = 0 ||
      f.lossLimit = 0) [nobody],
    failIf (f.warn > f.reject) [nobody],
    failIf (f.classes.get 0).isNone [(some 0, none), nobody],
    match f.overlaps with
    | [] => []
    | l => l ++ [nobody],
    (variants.filter fun v => (f.classes.get v).isSome != (f.program v).present).map fun v => (some v, none),
    failIf (inputIds.all fun i => (st.inputs.get i).function != .mark) [nobody],
    (channelIds.filter fun c => f.required.getLsbD c.val && !(st.channels.get c).configured).map fun c =>
      (none, some c.val),
    (f.allWindows.filter fun (_, w) => !(st.channels.get w.channel).configured).map fun (v, w) =>
      (some v, some w.channel.val),
    stationFunctions.flatMap st.stationAbsent,
    stationFunctions.flatMap fun fn =>
      match st.channelOf fn with
      | none => []
      | some c => f.stationFailures c,
    (f.allChecks.filter fun (_, k) => (st.inputs.get k.input).function != .check).map fun (v, k) =>
      (some v, some k.input.val),
    (f.allChecks.filter fun (v, k) =>
      match k.paired with
      | none => false
      | some c => ((f.program v).window? c).isNone).flatMap fun (v, k) =>
        [(some v, k.paired.map Fin.val), (some v, some k.input.val)] ]

/-- The mark decision D of R33, from the start of the birth pitch. -/
def Format.decision (f : Format) : Int := f.nominal + f.half + Config.settleMargin

/-- The earliest issue of a window at an offset (R33). -/
def earliestIssue (offset on : Nat) : Int :=
  offset * Config.pitchCounts + on - Config.leadLimit - Config.issueMargin

/-- The on angle of a channel's window in the first present program that holds one (R32 check 10 makes them equal). -/
def Format.stationOn (f : Format) (c : Fin 24) : Nat :=
  match (f.presentVariants.filterMap fun v => (f.program v).window? c).head? with
  | some w => w.on
  | none => 0

/-- The timing checks of R33 in order for delivery offset s. They are made where the table holds a GATE and a FINGER
channel, which check 9 of R32 makes sure of. -/
def timingChecks (st : Store) (s : Nat) (f : Format) : List (List Subject) :=
  match st.channelOf .gate, st.channelOf .finger with
  | some gate, some finger =>
    let offset := fun c => (st.channels.get c).offset
    let gateOn := f.stationOn gate
    let earliestGate := earliestIssue (offset gate) gateOn
    let latestGate : Int := offset gate * Config.pitchCounts + gateOn - Config.issueMargin
    let subject := fun (p : Fin 4 × WindowEntry) => ((some p.1, some p.2.channel.val) : Subject)
    let early := fun (w : WindowEntry) => earliestIssue (offset w.channel) w.on < f.decision
    [ (f.allWindows.filter fun (_, w) => offset w.channel > s).map subject,
      (f.allWindows.filter fun (_, w) => (f.commonWindow w.channel).isNone && early w).map subject,
      (f.allWindows.filter fun (_, w) => (st.channels.get w.channel).policy == .skipReject && early w).map subject,
      (f.allChecks.filter fun (_, k) =>
        earliestGate ≤ (st.inputs.get k.input).offset * Config.pitchCounts + k.stop + Config.settleMargin).map
          fun (v, k) => (some v, some k.input.val),
      failIf (offset gate ≥ s) (f.stationSubjects gate),
      failIf (offset finger < offset gate || offset finger > s) (f.stationSubjects finger),
      failIf (earliestIssue (offset finger) (f.stationOn finger) < latestGate) (f.stationSubjects finger),
      failIf (earliestGate < f.decision + 1024) (nobody :: f.stationSubjects gate) ]
  | _, _ => [[nobody]]

/-- The first failing check of a list, numbered from n, with its subjects. -/
def firstFailure : Nat → List (List Subject) → Option (Nat × List Subject)
  | _, [] => none
  | n, [] :: rest => firstFailure (n + 1) rest
  | n, l :: _ => some (n, l)

/-- One subject of a list: the only one, or one a free value picks (log 20). -/
def pickSubject (n : Nat) : List Subject → Subject
  | [] => nobody
  | [x] => x
  | l => l.getD (n % l.length) nobody

/-! ### The admission recheck (R35) -/

/-- What FST answers about a lot's format at admission (R35). -/
inductive FormatAnswer where
  | valid | notValid | mismatch
deriving DecidableEq, Repr

/-- The answer of R35; a mismatch makes the format INVALID. -/
def State.askFormat (f : Fin 16) (s : State) : FormatAnswer × State :=
  let fmt := s.format f
  if fmt.state ≠ .valid then (.notValid, s)
  else if fmt.contentSum (formatNumber f) = fmt.storedSum then (.valid, s)
  else (.mismatch, s.setFormat f fun x => { x with state := .invalid })

end Sys2Proof.Machine
end

