-- ==== Sys2Proof/Machine/Operands.lean ====
section
/-! DEFINITION. The operands of requests: from argument bytes to the records and items of the format store, with the
range tests of R17 to R20, R28 and R179. None stands for a field out of range (BAD_VALUE). -/

namespace Sys2Proof.Machine

/-- A number below n as an index. -/
def index? (n x : Nat) : Option (Fin n) := if h : x < n then some ⟨x, h⟩ else none

def actFunction? : Nat → Option ActFunction
  | 0 => some .knife | 1 => some .fold | 2 => some .gum | 3 => some .patch | 4 => some .gate | 5 => some .finger
  | 6 => some .general | _ => none
def policy? : Nat → Option RejectPolicy
  | 0 => some .fireAlways | 1 => some .skipReject | _ => none
def safeState? : Nat → Option SafeState
  | 0 => some .off | 1 => some .on | 2 => some .hold | _ => none
def source? : Nat → Option Source
  | 0 => some .disabled | 1 => some .cam | 2 => some .manual | _ => none
def inFunction? : Nat → Option InFunction
  | 0 => some .unused | 1 => some .mark | 2 => some .check | 3 => some .splice | 4 => some .boxTaken | _ => none
def inLevel? : Nat → Option InLevel
  | 0 => some .low | 1 => some .high | _ => none
def expectation? : Nat → Option Expectation
  | 0 => some .absent | 1 => some .present | _ => none
/-- A no or yes code. R178 gives none for the enable of MAP_SET, the present byte of a class item and accept unlocked:
0 and 1 are the model's (DESIGN CHOICE; log 42). -/
def yesNo? : Nat → Option Bool
  | 0 => some false | 1 => some true | _ => none

/-- KNIFE, FOLD, GATE and FINGER: the functions whose policy is FIRE_ALWAYS and whose windows are never HELD by policy
(R17, R72). -/
def ActFunction.alwaysFires : ActFunction → Bool
  | .knife => true | .fold => true | .gate => true | .finger => true | .gum => false | .patch => false | .general => false

/-- Test 3 of CHANNEL_SET: every field in its range and in agreement with the function (R17, R21). -/
def channelRecord (a : ChannelArgs) : Option Channel :=
  match actFunction? a.function.toNat, policy? a.policy.toNat, safeState? a.safeState.toNat, source? a.source.toNat with
  | some fn, some policy, some safeState, some source =>
    if 1 ≤ a.node.toNat ∧ a.node.toNat ≤ 61 ∧ a.point.toNat ≤ 15 ∧ a.offset.toNat ≤ 30 ∧ a.delay.toNat ≤ 20000 ∧
        a.dwellMin.toNat ≤ 50000 ∧ a.mergeGap.toNat ≤ 1023 ∧
        (if fn = .gate then 1 ≤ a.holdMax.toNat ∧ a.holdMax.toNat ≤ 16 else a.holdMax.toNat = 0) ∧
        (fn = .knife → a.offset.toNat = 0) ∧ (fn.alwaysFires → policy = .fireAlways) then
      some ⟨a.node.toNat, a.point.toNat, fn, a.offset.toNat, a.delay.toNat, a.dwellMin.toNat, a.mergeGap.toNat,
        a.holdMax.toNat, policy, safeState, source⟩
    else none
  | _, _, _, _ => none

/-- Test 3 of INPUT_SET (R18, R21). -/
def inputRecord (a : InputArgs) : Option Input :=
  match inFunction? a.function.toNat, inLevel? a.activeLevel.toNat with
  | some fn, some level =>
    if fn = .check then
      if a.offset.toNat ≤ 30 ∧ a.limit.toNat ≤ 15 then
        some ⟨fn, a.offset.toNat, level, a.glitchMin.toNat, a.limit.toNat⟩
      else none
    else if a.offset.toNat = 0 ∧ a.limit.toNat = 0 then some ⟨fn, 0, level, a.glitchMin.toNat, 0⟩
    else none
  | _, _ => none

/-- The line settings of SETTINGS_SET, each in its range (R20, R23). -/
def settingsRecord (a : SettingsArgs) : Option Settings :=
  if 1 ≤ a.driveNode.toNat ∧ a.driveNode.toNat ≤ 61 ∧ 1 ≤ a.feedNode.toNat ∧ a.feedNode.toNat ≤ 61 ∧
      a.noticeAddress.toNat ≤ 63 ∧ 2 ≤ a.motionTimeout.toNat ∧ a.motionTimeout.toNat ≤ 50 ∧
      a.cutMinimum.toNat ≤ 1800 ∧ 100 ≤ a.overspeed.toNat ∧ a.overspeed.toNat ≤ 1900 ∧
      1 ≤ a.debounce.toNat ∧ a.debounce.toNat ≤ 15 ∧ 2 ≤ a.deliveryOffset.toNat ∧ a.deliveryOffset.toNat ≤ 30 ∧
      1 ≤ a.boxDeadline.toNat then
    some ⟨a.driveNode.toNat, a.feedNode.toNat, a.noticeAddress.toNat, a.motionTimeout.toNat, a.cutMinimum.toNat,
      a.overspeed.toNat, a.debounce.toNat, a.deliveryOffset.toNat, a.boxDeadline.toNat⟩
  else none

/-- The entry of MAP_SET: base and mask of ten bits, first channel 0 to 15 (R19, R22). -/
def mapRecord (a : MapArgs) (enable : Bool) : Option MapEntry :=
  if a.base.toNat ≤ 1023 ∧ a.mask.toNat ≤ 1023 ∧ a.first.toNat ≤ 15 then
    some ⟨enable, BitVec.ofNat 10 a.base.toNat, BitVec.ofNat 10 a.mask.toNat, a.first.toNat⟩
  else none

/-! ### FORMAT_LOAD items (R28, R178, R179) -/

/-- A well-formed load item. A parameter is held as the change it makes. -/
inductive Load where
  | parameter (number value : Nat)
  | markClass (variant : Fin 4) (c : Option MarkClass)
  | window (variant : Fin 4) (w : WindowEntry)
  | check (variant : Fin 4) (k : CheckEntry)
deriving DecidableEq, Repr

/-- The ranges of the numbered parameters (R24, R179). -/
def parameterFits (number value : Nat) : Bool :=
  match number with
  | 1 => 1 ≤ value && value ≤ 15
  | 2 => value < 2 ^ 24
  | 3 => value ≤ 4095
  | 4 => 16 ≤ value && value ≤ 1024
  | 6 => 1 ≤ value && value ≤ 255
  | 7 => 1 ≤ value && value ≤ 1023
  | 8 => 1 ≤ value && value ≤ 1023
  | 9 => value ≤ 16
  | 10 => 1 ≤ value && value ≤ 64
  | 11 => value ≤ 512
  | 12 => 1 ≤ value && value ≤ 15
  | 13 => value ≤ 63
  | 14 => value ≤ 63
  | 15 => value ≤ 1
  | _ => false

/-- A class item: absent, or both widths 1 to 2,047 with minimum at most maximum (R28, R179; the codes
of present: log 42). -/
def classItem (variant present min max : Nat) : Option Load :=
  match index? 4 variant, yesNo? present with
  | some v, some false => some (.markClass v none)
  | some v, some true =>
    if 1 ≤ min ∧ min ≤ max ∧ max ≤ 2047 then some (.markClass v (some ⟨min, max⟩)) else none
  | _, _ => none

/-- A window item (R24, R28). -/
def windowItem (variant channel on off : Nat) : Option Load :=
  match index? 4 variant, index? 24 channel with
  | some v, some c => if on ≤ 4095 ∧ off ≤ 4095 ∧ on ≠ off then some (.window v ⟨c, on, off⟩) else none
  | _, _ => none

/-- The paired channel of a check item: 255 for none (R178, R179). -/
def paired? (x : Nat) : Option (Option (Fin 24)) :=
  if x = 255 then some none else (index? 24 x).map some

/-- A check item (R24, R28, R179). -/
def checkItem (variant input start stop expect paired : Nat) : Option Load :=
  match index? 4 variant, index? 16 input, expectation? expect, paired? paired with
  | some v, some i, some e, some p => if start ≤ stop ∧ stop ≤ 4095 then some (.check v ⟨i, start, stop, e, p⟩) else none
  | _, _, _, _ => none

/-- A load item read by its type; none where it is not well formed on its own (R28 test 2, R179). -/
def readItem (i : LoadItem) : Option Load :=
  match i.kind.toNat with
  | 1 =>
    let value := (quad i.b2 i.b3 i.b4 i.b5).toNat
    if parameterFits i.b1.toNat value then some (.parameter i.b1.toNat value) else none
  | 2 => classItem i.b1.toNat i.b2.toNat (half i.b3 i.b4).toNat (half i.b5 i.b6).toNat
  | 3 => windowItem i.b1.toNat i.b2.toNat (half i.b3 i.b4).toNat (half i.b5 i.b6).toNat
  | 4 => checkItem i.b1.toNat i.b2.toNat (half i.b3 i.b4).toNat (half i.b5 i.b6).toNat i.b7.toNat i.b8.toNat
  | _ => none

/-- All items, or none where one is not well formed. -/
def readItems : List LoadItem → Option (List Load)
  | [] => some []
  | i :: rest =>
    match readItem i, readItems rest with
    | some l, some ls => some (l :: ls)
    | _, _ => none

/-- A parameter takes its new value (R28, numbering of R179). -/
def Format.setParameter (f : Format) (number value : Nat) : Format :=
  match number with
  | 1 => { f with sizeClass := value }
  | 2 => { f with required := BitVec.ofNat 24 value }
  | 3 => { f with nominal := value }
  | 4 => { f with half := value }
  | 6 => { f with lockWindow := value }
  | 7 => { f with warn := value }
  | 8 => { f with reject := value }
  | 9 => { f with gain := value }
  | 10 => { f with stepMax := value }
  | 11 => { f with trimMax := value }
  | 12 => { f with lossLimit := value }
  | 13 => { f with holdoff := value }
  | 14 => { f with span := value }
  | 15 => { f with acceptUnlocked := value == 1 }
  | _ => f

/-- One item applied to a format (R28). -/
def Format.load (f : Format) : Load → Format
  | .parameter n v => f.setParameter n v
  | .markClass v c => { f with classes := f.classes.set v c }
  | .window v w =>
    { f with programs := updateAt f.programs v fun p => { p with windows := insertWindow w p.windows } }
  | .check v k =>
    { f with programs := updateAt f.programs v fun p => { p with checks := insertCheck k p.checks } }

end Sys2Proof.Machine
end

