-- ==== Sys2Proof/Machine/Cam.lean ====
section
/-! DEFINITION. The cam engine (spec/05): windows, lead and firing positions, due tests, issue, merging, suppression, the
gate and the finger, safe states. -/

namespace Sys2Proof.Machine

def State.camChannel (s : State) (c : Fin 24) : CamChannel := s.cam.get c

/-- A change of one channel's state. -/
def State.setCam (c : Fin 24) (f : CamChannel → CamChannel) (s : State) : State :=
  { s with cam := updateAt s.cam c f }

/-! ### Lead and firing positions (R75 to R77) -/

/-- S × delay / 1,000,000 rounded to the nearest integer, halves up (R75). -/
def rawLead (speed delay : Nat) : Nat := (speed * delay + 500000) / 1000000

/-- The lead of a channel at a speed (R75). -/
def lead (speed delay : Nat) : Nat := min Config.leadLimit (rawLead speed delay)

/-- Whether the lead is clamped (R75). -/
def leadClamped (speed delay : Nat) : Bool := Config.leadLimit < rawLead speed delay

/-- The firing position of an angle of a pitch: F_on, or F_off by the off pitch (R76). -/
def firing (pitch angle lead : Nat) : Int := (pitch * Config.pitchCounts + angle : Int) - lead

/-- The off pitch of a window (R71, R76). -/
def offPitch (target on off : Nat) : Nat := if on < off then target else target + 1

/-- The minimum off position for a firing position (R77). -/
def minimumOff (fOn : Int) (dwellMin speed : Nat) : Int := fOn + ((dwellMin * speed + 999999) / 1000000 : Nat)

/-- F_off of an active OFF at the current S (R76). -/
def State.offByAngle (s : State) (c : Fin 24) (a : ActiveOff) : Int :=
  firing a.offPitch a.offAngle (lead s.pos.s (s.channel c).delay)

/-- The OFF firing position (R77). -/
def State.offFiring (s : State) (c : Fin 24) (a : ActiveOff) : Int := max (s.offByAngle c a) a.minOff

/-- F_on of a window's angles at the current S (R76). -/
def State.onFiring (s : State) (c : Fin 24) (target on : Nat) : Int :=
  firing target on (lead s.pos.s (s.channel c).delay)

/-- An edge is due: the held position is at or above its firing position less the issue margin (R76, R77). -/
def State.due (s : State) (position : Int) : Bool := position - Config.issueMargin ≤ s.pos.held

/-- The node count of a firing position (R76). -/
def State.nodeCount (s : State) (position : Int) : Nat :=
  ((position - s.pos.raw + s.pos.lastCount) % 65536).toNat

/-! ### OUTPUT frames (R87) -/

/-- A timed OUTPUT frame (R87). -/
def State.placeTimed (c : Fin 24) (on : Bool) (position : Int) (serial : Nat) (s : State) : State :=
  s.placeOutbound (.output (s.channel c).node (s.channel c).point on false c (s.nodeCount position) (serial % 65536))

/-- An immediate OUTPUT frame, with the node count of the raw position (R87). -/
def State.placeImmediate (c : Fin 24) (on : Bool) (s : State) : State :=
  s.placeOutbound (.output (s.channel c).node (s.channel c).point on true c (s.nodeCount s.pos.raw) 0)

/-- The counters of an issued edge (R75, R83). -/
def State.countEdge (c : Fin 24) (position : Int) (s : State) : State :=
  (s.bumpIf (leadClamped s.pos.s (s.channel c).delay) ctrLeadClamps).bumpIf (position < s.pos.held) ctrCommandsLate

/-! ### Issue (R80, R81) -/

/-- The gate's merge count returns to 0 (R80, R81). -/
def gateZero (fn : ActFunction) (x : CamChannel) : CamChannel := if fn = .gate then { x with merges := 0 } else x

/-- The head window leaves the schedule. -/
def State.dropHead (c : Fin 24) (s : State) : State := s.setCam c fun x => { x with schedule := x.schedule.tail }

/-- The ON edge of the head window is issued (R80). -/
def State.issueOn (c : Fin 24) (w : Window) (on off : Nat) (s : State) : State :=
  let ch := s.channel c
  let position := s.onFiring c w.target on
  let active : ActiveOff := ⟨w.serial, offPitch w.target on off, off, minimumOff position ch.dwellMin s.pos.s, false⟩
  let s := (s.countEdge c position).placeTimed c true position w.serial
  s.setCam c fun x =>
    gateZero ch.function { x with schedule := x.schedule.tail, level := .on, activeOff := some active }

/-- The active OFF is issued (R81). -/
def State.issueOff (c : Fin 24) (a : ActiveOff) (s : State) : State :=
  let ch := s.channel c
  let position := s.offFiring c a
  let s := s.bumpIf (s.offByAngle c a < a.minOff) ctrDwellExtends
  let s := (s.countEdge c position).placeTimed c false position a.serial
  s.setCam c fun x => gateZero ch.function { x with level := .off, activeOff := none }

/-! ### Merging (R82) -/

/-- The merge test (R82). -/
def State.mergeTest (s : State) (c : Fin 24) (a : ActiveOff) (target on : Nat) : Bool :=
  s.onFiring c target on ≤ s.offFiring c a + (s.channel c).mergeGap

/-- The head window merges into the present on-time (R82). -/
def State.merge (c : Fin 24) (a : ActiveOff) (w : Window) (on off : Nat) (s : State) : State :=
  let gate := (s.channel c).function == .gate
  s.setCam c fun x =>
    { x with
      schedule := x.schedule.tail
      activeOff := some { a with serial := w.serial, offPitch := offPitch w.target on off, offAngle := off, held := false }
      merges := if gate then x.merges + 1 else x.merges }

/-- The head window fires: issued, merged, or issued after the active OFF (R80, R82). -/
def State.fire (c : Fin 24) (w : Window) (on off : Nat) (s : State) : State :=
  match (s.camChannel c).activeOff with
  | none => s.issueOn c w on off
  | some a =>
    if s.mergeTest c a w.target on then s.merge c a w on off else (s.issueOff c a).issueOn c w on off

/-- The head window does not fire: it leaves the schedule, and a held active OFF is issued at once (R82). -/
def State.noFire (c : Fin 24) (s : State) : State :=
  let s := s.dropHead c
  match (s.camChannel c).activeOff with
  | some a => if a.held then s.issueOff c a else s
  | none => s

/-! ### The gate (R84) -/

/-- The final point: CAM's action at the gate and the record's settlement, on different state and in no given order
(R84, R114; log 4). -/
def State.gateDue (c : Fin 24) (w : Window) (on off : Nat) (s : State) : State :=
  match s.findRecord w.serial with
  | none => s.noFire c
  | some r =>
    if !r.reject then eitherOrder (State.noFire c) (State.settleGood r) s
    else
      match (s.camChannel c).activeOff with
      | none => eitherOrder (State.fire c w on off) (State.settleDiverted r) s
      | some a =>
        if s.mergeTest c a w.target on ∧ (s.channel c).holdMax ≤ (s.camChannel c).merges then
          eitherOrder (fun s => (s.dropHead c).issueOff c a) (State.settleUndiverted r) s
        else eitherOrder (State.fire c w on off) (State.settleDiverted r) s

/-! ### ON due (R79, R85) -/

/-- Whether a record is a reject; a record that has left the queue is none. -/
def State.isReject (s : State) (serial : Nat) : Bool :=
  match s.findRecord serial with | some r => r.reject | none => false

/-- Whether a record carries batch end yes (R85). -/
def State.endsBatch (s : State) (serial : Nat) : Bool :=
  match s.findRecord serial with | some r => r.batchEnd | none => false

/-- The ON edge of a SCHEDULED head window is taken (R79 to R85). -/
def State.takeOn (c : Fin 24) (w : Window) (on off : Nat) (s : State) : State :=
  match (s.channel c).function with
  | .gate => s.gateDue c w on off
  | .finger => if s.endsBatch w.serial then s.fire c w on off else s.noFire c
  | .knife => s.fire c w on off
  | .fold => s.fire c w on off
  | .gum | .patch | .general =>
    if (s.channel c).policy = .skipReject ∧ s.isReject w.serial then (s.writeSuppressed w.serial c).noFire c
    else s.fire c w on off

/-- The active OFF that has come due is held for the head window or issued (R81). -/
def State.takeOff (c : Fin 24) (a : ActiveOff) (s : State) : State :=
  let partner := match (s.camChannel c).schedule with
    | ⟨_, _, target, some (on, _)⟩ :: _ => s.mergeTest c a target on
    | _ => false
  if partner then s.setCam c fun x => { x with activeOff := some { a with held := true } } else s.issueOff c a

/-- Step 2 of R78: the active OFF, present, not held and due. -/
def State.offStep (c : Fin 24) (s : State) : Option State :=
  match (s.camChannel c).activeOff with
  | some a => if !a.held && s.due (s.offFiring c a) then some (s.takeOff c a) else none
  | none => none

/-- One of the two steps of R78 on a channel, or none where neither applies. -/
def State.camStep (c : Fin 24) (s : State) : Option State :=
  match (s.camChannel c).schedule with
  | w :: _ =>
    match w.angles with
    | some (on, off) => if s.due (s.onFiring c w.target on) then some (s.takeOn c w on off) else s.offStep c
    | none => s.offStep c
  | [] => s.offStep c

/-- The steps of R78 repeated until neither applies. Every step takes a window off the schedule or takes the active OFF
of a window that has left it, so twice the windows and two more are enough. -/
def camLoop (c : Fin 24) : Nat → State → State
  | 0, s => s
  | n + 1, s =>
    match s.camStep c with
    | some s' => camLoop c n s'
    | none => s

/-- CAM's tests of one channel (R78). -/
def State.testChannel (s : State) (c : Fin 24) : State := camLoop c (2 * (s.camChannel c).schedule.length + 2) s

/-- The channels in the order of R78: the GATE channel, then the others ascending. -/
def State.camOrder (s : State) : List (Fin 24) :=
  (channelIds.filter fun c => (s.channel c).function == .gate) ++
    channelIds.filter fun c => (s.channel c).function != .gate

/-- CAM's work on a position advance (R78). -/
def State.camAdvance (s : State) : State := s.camOrder.foldl State.testChannel s

/-! ### Windows of a record (R72, R73) -/

/-- The window a channel receives for a new record, if any (R72). -/
def State.windowFor (s : State) (r : Record) (c : Fin 24) : Option Window :=
  let f := s.format r.format
  let ch := s.channel c
  if ch.source = .cam ∧ f.hasWindow c then
    some ⟨r.serial, r.birth, r.birth + ch.offset,
      if ch.policy = .fireAlways ∨ ch.function.alwaysFires then (f.commonWindow c).map fun w => (w.on, w.off) else none⟩
  else none

/-- CAM's part of a record's creation: windows join the schedules, and the steps of R78 are applied to the channels that
received one (R72, R78; log 22). -/
def State.camCreate (r : Record) (s : State) : State :=
  let s' := channelIds.foldl (fun (t : State) c =>
    match s.windowFor r c with
    | some w => t.setCam c fun x => { x with schedule := x.schedule ++ [w] }
    | none => t) s
  (s.camOrder.filter fun c => (s.windowFor r c).isSome).foldl State.testChannel s'

/-- A HELD window of the record resolved from the selected program: SCHEDULED, or dropped (R73). -/
def resolveWindow (p : Program) (c : Fin 24) (serial : Nat) (w : Window) : Option Window :=
  if w.serial = serial ∧ w.angles.isNone then (p.window? c).map fun e => { w with angles := some (e.on, e.off) } else some w

/-- The program a mark decision selects: the variant's, or variant 0's as the fallback (R73). -/
def Record.selected (r : Record) : Fin 4 := r.variant.getD 0

/-- Whether a channel's schedule holds a HELD window of a record. -/
def State.heldFor (s : State) (serial : Nat) (c : Fin 24) : Bool :=
  (s.camChannel c).schedule.any fun w => w.serial == serial && w.angles.isNone

/-- CAM resolves a record's HELD windows, each SCHEDULED or dropped, and the steps of R78 are applied to their channels
(R73, R78; log 22). -/
def State.camResolve (r : Record) (s : State) : State :=
  let p := (s.format r.format).program r.selected
  let s' := channelIds.foldl (fun (t : State) c =>
    t.setCam c fun x => { x with schedule := x.schedule.filterMap (resolveWindow p c r.serial) }) s
  (s.camOrder.filter (s.heldFor r.serial)).foldl State.testChannel s'

/-! ### Line states (R90, R91) -/

/-- One channel at entry to SAFE (R90). -/
def State.safeChannel (s : State) (c : Fin 24) : State :=
  if (s.channel c).source = .disabled then s
  else
    match (s.channel c).safeState with
    | .off => (s.placeImmediate c false).setCam c fun x => { x with level := .off }
    | .on => (s.placeImmediate c true).setCam c fun x => { x with level := .on }
    | .hold => s

/-- A channel without windows, active OFF and merge count (R90, and the LINE_RESET column of R71). -/
def CamChannel.cleared (x : CamChannel) : CamChannel := { x with schedule := [], activeOff := none, merges := 0 }

/-- Every channel cleared. -/
def State.camClear (s : State) : State :=
  { s with cam := channelIds.foldl (fun v c => updateAt v c CamChannel.cleared) s.cam }

/-- CAM's entry to SAFE (R90). -/
def State.camSafe (s : State) : State := channelIds.foldl State.safeChannel s.camClear

/-- CAM at the end of a run-out: every remaining active OFF is issued, channels ascending (R91; log 21). -/
def State.camRunoutEnd (s : State) : State :=
  channelIds.foldl (fun (t : State) c =>
    let t := match (t.camChannel c).activeOff with
      | some a => t.issueOff c a
      | none => t
    t.setCam c fun x => { x with merges := 0 }) s

end Sys2Proof.Machine
end

