-- ==== Sys2Proof/Machine/Registration.lean ====
section
/-! DEFINITION. The registration unit (spec/03): pending marks, mark pulses and widths, the lock, the trim, splices,
poisoning, the start and the end of a run. -/

namespace Sys2Proof.Machine

/-! ### Mark windows (R38) -/

/-- The mark window of a blank born in pitch b for a format: start and end (R38). -/
def markWindow (f : Format) (b : Nat) : Int × Int :=
  ((b * Config.pitchCounts + f.nominal : Int) - f.half, (b * Config.pitchCounts + f.nominal : Int) + f.half)

/-- The pending mark of a record (R38). -/
def pendingMarkOf (f : Format) (r : Record) : PendingMark :=
  { serial := r.serial, birth := r.birth, start := (markWindow f r.birth).1, stop := (markWindow f r.birth).2,
    candidate := none }

/-- REG's part of a record's creation: the splice span poisons it (R50), and a pending mark joins the list (R38). -/
def State.regCreate (r : Record) (s : State) : State :=
  let s :=
    if 0 < s.reg.span then
      let s := (s.writeRecord r.serial fun x => { x with poisoned := true }).addDefect r.serial .splice
      { s with reg := { s.reg with span := s.reg.span - 1 } }
    else s
  { s with reg := { s.reg with marks := s.reg.marks ++ [pendingMarkOf (s.format r.format) r] } }

/-! ### Mark pulses (R39) -/

/-- The record whose mark window holds a leading edge, the lower birth pitch of two (R39). -/
def State.markRecord (s : State) (lead : Int) : Option Record :=
  s.trq.queue.find? fun r =>
    let w := markWindow (s.format r.format) r.birth
    w.1 ≤ lead && lead ≤ w.2

/-- An accepted pulse of the MARK input: candidate, extra, late, or passed over; in SAFE passed over (R39, R52). -/
def State.markPulse (lead : Int) (width : Option Int) (s : State) : State :=
  if s.sup.line = .safe then s
  else
    match s.markRecord lead with
    | none => s
    | some r =>
      match s.reg.marks.find? fun m => m.serial == r.serial with
      | none => s.bump ctrEdgesLate
      | some m =>
        match m.candidate with
        | some _ => s.bump ctrMarksExtra
        | none =>
          let marks := s.reg.marks.map fun x =>
            if x.serial = r.serial then { x with candidate := some ⟨lead, width⟩ } else x
          { s with reg := { s.reg with
              marks := marks, openCandidate := if width.isNone then some lead else s.reg.openCandidate } }

/-- A width that arrives for an open mark pulse: stored with its candidate, late when that mark has been decided, and
without effect for a pulse that was no candidate; in SAFE passed over (R39, R52; log 17). -/
def State.markWidth (lead width : Int) (s : State) : State :=
  if s.reg.openCandidate ≠ some lead then s
  else
    let isIt := fun (m : PendingMark) => m.candidate == some ⟨lead, none⟩
    let s' := { s with reg := { s.reg with openCandidate := none } }
    if s.sup.line = .safe then s'
    else if s.reg.marks.any isIt then
      { s' with reg := { s'.reg with
          marks := s.reg.marks.map fun m => if isIt m then { m with candidate := some ⟨lead, some width⟩ } else m } }
    else s'.bump ctrEdgesLate

/-- Whether a pending mark waits for the width of the open pulse that is its candidate. -/
def Reg.awaitsWidth (r : Reg) (m : PendingMark) : Bool :=
  match m.candidate with
  | some ⟨lead, none⟩ => r.openCandidate == some lead
  | some ⟨_, some _⟩ => false
  | none => false

/-- Pending marks leave the list undecided (R38, R53). A width still to come for one of them will find no mark that has
been decided, and so has no effect (log 17). -/
def Reg.withoutMarks (r : Reg) (leave : PendingMark → Bool) : Reg :=
  { r with
    marks := r.marks.filter fun m => !leave m
    openCandidate := if r.marks.any fun m => leave m && r.awaitsWidth m then none else r.openCandidate }

/-! ### The mark decision's classification (R40) -/

/-- What a mark decision finds (R40). -/
inductive MarkOutcome where
  | missing
  | unreadable
  | read (variant : Fin 4) (error : Int)
deriving DecidableEq, Repr

/-- The present class a width lies in (R40). -/
def Format.classOf (f : Format) (width : Int) : Option (Fin 4) :=
  variants.find? fun v =>
    match f.classes.get v with
    | none => false
    | some c => (c.min : Int) ≤ width && width ≤ c.max

/-- The classification of a candidate (R40). -/
def classify (f : Format) (birth : Nat) : Option Candidate → MarkOutcome
  | none => .missing
  | some ⟨_, none⟩ => .unreadable
  | some ⟨lead, some w⟩ =>
    match f.classOf w with
    | none => .unreadable
    | some v => .read v (lead - (birth * Config.pitchCounts + f.nominal))

def MarkOutcome.error : MarkOutcome → Option Int
  | .missing => none | .unreadable => none | .read _ e => some e

def MarkOutcome.variant : MarkOutcome → Option (Fin 4)
  | .missing => none | .unreadable => none | .read v _ => some v

/-! ### The trim (R46 to R48) -/

/-- An integer divided by 16, rounded to the nearest, halves away from zero (R46 step 1). -/
def roundSixteenth (x : Int) : Int :=
  if 0 ≤ x then ((x.natAbs + 8) / 16 : Nat) else -(((x.natAbs + 8) / 16 : Nat) : Int)

/-- A number held within plus or minus a limit. -/
def clamp (limit x : Int) : Int := if limit < x then limit else if x < -limit then -limit else x

/-- The new trim of a correction (R46). -/
def correctedTrim (f : RegSettings) (trim e : Int) : Int :=
  clamp f.trimMax (trim - clamp f.stepMax (roundSixteenth (e * f.gain)))

/-- A correction: the trim, its TRIM frame where it changed, TRIM_LIMIT where it newly reached a limit (R46 to R48). -/
def State.correctTrim (f : RegSettings) (e : Int) (s : State) : State :=
  let trim := correctedTrim f s.reg.trim e
  if trim = s.reg.trim then s
  else
    let s := { s with reg := { s.reg with trim := trim } }.placeTrim
    if 0 < f.trimMax ∧ (trim = f.trimMax ∨ trim = -(f.trimMax : Int)) then s.raise .trimLimit .none (.number trim)
    else s

/-! ### The lock (R42 to R44) -/

/-- A good mark: an error at most the lock window (R42). -/
def goodMark (f : RegSettings) : Option Int → Bool
  | none => false
  | some e => e.natAbs ≤ f.lockWindow

/-- The lock takes a mark decision (R42, R43, R44). -/
def State.lockMark (error : Option Int) (s : State) : State :=
  match s.reg.inForce with
  | none => s
  | some f =>
    match s.reg.lock with
    | .off => s
    | .holdoff =>
      let n := s.reg.holdoff - 1
      { s with reg := { s.reg with holdoff := n, lock := if n = 0 then .search else .holdoff } }
    | .search =>
      if goodMark f error then { s with reg := { s.reg with lock := .acquire, matchCount := 1 } } else s
    | .acquire =>
      if goodMark f error then
        if s.reg.matchCount + 1 = 3 then
          { s with reg := { s.reg with lock := .locked, matchCount := 0, missCount := 0 } }
        else { s with reg := { s.reg with matchCount := s.reg.matchCount + 1 } }
      else { s with reg := { s.reg with lock := .search, matchCount := 0 } }
    | .locked =>
      match error with
      | some e => { s with reg := { s.reg with missCount := 0 } }.correctTrim f e
      | none =>
        if f.lossLimit ≤ s.reg.missCount + 1 then
          { s with reg := { s.reg with lock := .search, missCount := 0, lost := true } }.raise .regLost .none
            (.number f.lossLimit)
        else { s with reg := { s.reg with missCount := s.reg.missCount + 1 } }

/-- The mark-decision write: variant and error, stored if both are absent (R40, R59). -/
def State.writeMark (serial : Nat) (o : MarkOutcome) (s : State) : State :=
  s.writeRecord serial fun r =>
    if r.variant.isNone ∧ r.error.isNone ∧ r.final.isNone then { r with variant := o.variant, error := o.error } else r

/-- The defects of a decision, judged at the lock state after the lock has taken the mark (R41). -/
def State.writeMarkDefects (serial : Nat) (f : Format) (o : MarkOutcome) (s : State) : State :=
  match o with
  | .missing => s.addDefect serial .markMissing
  | .unreadable => s.addDefect serial .markUnreadable
  | .read _ e =>
    let s := s.bumpIf (f.warn < e.natAbs) ctrRegWarnings
    let s := if f.reject < e.natAbs then s.addDefect serial .regError else s
    if s.reg.lock ≠ .locked ∧ f.acceptUnlocked = false then s.addDefect serial .regUnlocked else s

/-! ### Splices (R49) -/

/-- A splice pulse (R49). -/
def State.splicePulse (s : State) : State :=
  match s.reg.lock, s.reg.inForce with
  | .off, _ => s
  | _, none => s
  | _, some f =>
    { s with reg := { s.reg with
        holdoff := f.holdoff, span := f.span, matchCount := 0, missCount := 0,
        lock := if f.holdoff = 0 then .search else .holdoff } }

/-! ### Runs (R51 to R53) -/

/-- The seven settings REG copies from a format (R37). -/
def Format.regSettings (f : Format) : RegSettings :=
  ⟨f.lockWindow, f.gain, f.stepMax, f.trimMax, f.lossLimit, f.holdoff, f.span⟩

/-- REG takes the start with the starting lot's format (R51). -/
def State.regStart (f : Format) (runClass : Nat) (s : State) : State :=
  let s :=
    if s.reg.trimClass = some runClass then s
    else { s with reg := { s.reg with trim := 0, inForce := some f.regSettings, trimClass := some runClass } }
  let s := s.placeTrim
  { s with reg := { s.reg with
      matchCount := 0, missCount := 0, lock := if 0 < s.reg.holdoff then .holdoff else .search } }

/-- The lock goes OFF at RUNOUT to IDLE and at entry to SAFE (R52). -/
def State.regOff (s : State) : State :=
  { s with reg := { s.reg with lock := .off, matchCount := 0, missCount := 0 } }

/-- The LINE_RESET column of R36. -/
def State.regReset (s : State) : State :=
  { s with reg := { Reg.reset with
      lost := s.reg.lost, openCandidate := (s.reg.withoutMarks fun _ => true).openCandidate } }

end Sys2Proof.Machine
end

