-- ==== Sys2Proof/Machine/Checks.lean ====
section
/-! DEFINITION. The check unit (spec/06): mapping and placing edges, pulses, routing, check windows and verdicts. -/

namespace Sys2Proof.Machine

def State.chkInput (s : State) (i : Fin 16) : ChkInput := s.chk.get i

/-- A change of one input's state. -/
def State.setChk (i : Fin 16) (f : ChkInput → ChkInput) (s : State) : State := { s with chk := updateAt s.chk i f }

/-! ### Mapping (R19, R94) -/

/-- The key of a report: source node × 16 + point (R19). Twelve bits hold any source byte. -/
def edgeKey (src : Byte) (point : Nat) : BitVec 12 := BitVec.ofNat 12 (src.toNat * 16 + point)

/-- An enabled entry matches a key where they agree under every one of the mask (R19). -/
def MapEntry.isMatch (e : MapEntry) (key : BitVec 12) : Bool :=
  e.enable && (key &&& e.mask.setWidth 12) == (e.base.setWidth 12 &&& e.mask.setWidth 12)

/-- The channel number an entry gives a key: first channel plus the bits under a zero of the mask (R19). -/
def MapEntry.channelOf (e : MapEntry) (key : BitVec 12) : Nat := e.first + (key &&& ~~~(e.mask.setWidth 12)).toNat

/-- The input channel of a report, or none where it is unmapped (R94). -/
def State.mapEdge (s : State) (key : BitVec 12) : Option (Fin 16) :=
  match s.store.map.toList.find? fun e => e.isMatch key with
  | none => none
  | some e =>
    match index? 16 (e.channelOf key) with
    | none => none
    | some i => if (s.input i).function = .unused then none else some i

/-! ### Placing (R4, R95) -/

/-- A 16-bit number read as signed (R4, R95). -/
def signed16 (n : Nat) : Int := if n % 65536 < 32768 then (n % 65536 : Nat) else ((n % 65536 : Nat) : Int) - 65536

/-- The signed step from one node count to another (R4, R95). -/
def countStep (old new : Nat) : Int := signed16 (new + 65536 - old % 65536)

/-! ### Check windows (R102) -/

/-- A position within a window, start and end included. -/
def inWindow (x start stop : Int) : Bool := start ≤ x && x ≤ stop

/-- A position lies in an alternative's window and the alternative has not passed. -/
def Alternative.takes (lead : Int) (a : Alternative) : Bool := inWindow lead a.start a.stop && !a.passed

/-- A position lies in the window of an alternative that has passed. -/
def Alternative.late (lead : Int) (a : Alternative) : Bool := inWindow lead a.start a.stop && a.passed

/-- An accepted pulse of a CHECK input (R102; in SAFE passed over, R108). -/
def State.checkPulse (i : Fin 16) (lead : Int) (s : State) : State :=
  if s.sup.line = .safe then s
  else
    let x := s.chkInput i
    if x.pending.any fun p => p.alternatives.any (Alternative.takes lead) then
      s.setChk i fun x => { x with
        pending := x.pending.map fun p => { p with
          alternatives := p.alternatives.map fun a => if a.takes lead then { a with seen := true } else a } }
    else
      let late := (x.pending.any fun p => p.alternatives.any (Alternative.late lead)) ||
        match x.lastClosed with | some w => inWindow lead w.1 w.2 | none => false
      s.bumpIf late ctrEdgesLate

/-! ### Routing (R99) -/

/-- An accepted pulse is routed by its input's function (R99). -/
def State.routePulse (i : Fin 16) (lead : Int) (width : Option Int) (s : State) : State :=
  match (s.input i).function with
  | .mark => s.markPulse lead width
  | .splice => s.splicePulse
  | .boxTaken => s.boxTaken
  | .check => s.checkPulse i lead
  | .unused => s

/-! ### Pulses (R96 to R98) -/

/-- A PENDING pulse whose open-acceptance position the held position has reached is accepted open (R96, R98; log 18). -/
def State.acceptOpen (s : State) (i : Fin 16) : State :=
  match (s.chkInput i).pulse with
  | .pending p =>
    if p + (s.input i).glitchMin ≤ s.pos.held then
      (s.setChk i fun x => { x with pulse := .open p }).routePulse i p none
    else s
  | .none => s
  | .open _ => s

/-- A leading edge (R96). An open mark pulse that is replaced will not receive a width. -/
def State.leadingEdge (i : Fin 16) (position : Int) (s : State) : State :=
  let s' := s.setChk i fun x => { x with pulse := .pending position }
  let s' := match (s.chkInput i).pulse with
    | .none => s'
    | .pending _ => s'.bump ctrGlitches
    | .open p =>
      let s' := s'.bump ctrGlitches
      if (s.input i).function = InFunction.mark ∧ s.reg.openCandidate = some p then
        { s' with reg := { s'.reg with openCandidate := none } }
      else s'
  s'.acceptOpen i

/-- A trailing edge (R97). -/
def State.trailingEdge (i : Fin 16) (position : Int) (s : State) : State :=
  let s' := s.setChk i fun x => { x with pulse := .none }
  match (s.chkInput i).pulse with
  | .none => s
  | .pending p =>
    let width := position - p
    if width < 1 ∨ width < (s.input i).glitchMin then s'.bump ctrGlitches else s'.routePulse i p (some width)
  | .open p => if (s.input i).function = .mark then s'.markWidth p (position - p) else s'

/-- CHK takes a copy of an EDGE frame: mapping, placing, and the edge (R94 to R97). -/
def State.takeEdge (src : Byte) (point : Nat) (level : InLevel) (count : Nat) (s : State) : State :=
  match s.mapEdge (edgeKey src point) with
  | none => s.bump ctrEdgesUnmapped
  | some i =>
    let d := countStep s.pos.lastCount count
    let position : Int := s.pos.raw + d
    if s.pos.state = .unknown then s.bump ctrEdgesStray
    else if 512 < d then s.bump ctrEdgesStray
    else if d < -4096 ∨ position < 0 then s.bump ctrEdgesLate
    else if level = (s.input i).activeLevel then s.leadingEdge i position
    else s.trailingEdge i position

/-! ### Opening checks (R100) -/

/-- The alternative of one program's check entry (R93, R100). -/
def alternativeOf (target : Nat) (v : Fin 4) (k : CheckEntry) : Alternative :=
  { variant := v, start := target * Config.pitchCounts + k.start, stop := target * Config.pitchCounts + k.stop,
    expect := k.expect, paired := k.paired, seen := false, passed := false, fallback := false }

/-- The pending check of a new record on an input, if a present program checks it (R100). -/
def State.pendingCheckFor (s : State) (r : Record) (i : Fin 16) : Option PendingCheck :=
  let f := s.format r.format
  let target := r.birth + (s.input i).offset
  match f.presentVariants.filterMap fun v => ((f.program v).check? i).map (alternativeOf target v) with
  | [] => none
  | alternatives => some ⟨r.serial, r.birth, target, false, alternatives⟩

/-- CHK's part of a record's creation (R100). -/
def State.chkCreate (r : Record) (s : State) : State :=
  inputIds.foldl (fun (t : State) i =>
    match s.pendingCheckFor r i with
    | some p => t.setChk i fun x => { x with pending := x.pending ++ [p] }
    | none => t) s

/-! ### Verdicts (R104 to R106) -/

/-- A check closing on a record is skipped: poisoned, paired with a suppressed channel, or a fallback (R104). -/
def State.skips (s : State) (serial : Nat) (a : Alternative) : Bool :=
  a.fallback ||
    match s.findRecord serial with
    | none => false
    | some r => r.poisoned || match a.paired with | some c => r.suppressed.contains c | none => false

/-- The result of a check: true is a pass (R104). -/
def Alternative.pass (a : Alternative) : Bool := (a.expect == .present) == a.seen

/-- A defect: the write of R105 and the consecutive count of R106. -/
def State.checkDefect (i : Fin 16) (serial : Nat) (s : State) : State :=
  let s := s.writeCheckDefect serial i
  let old := (s.chkInput i).consecutive
  let new := min 15 (old + 1)
  let limit := (s.input i).limit
  let s := s.bumpIf (old = 0) (ctrDefectRuns i)
  if 0 < limit ∧ new = limit then
    (s.setChk i fun x => { x with consecutive := 0 }).raise .consecutiveDefect .stop (.number i.val)
  else s.setChk i fun x => { x with consecutive := new }

/-- A pending check closes (R104): it leaves the list, its window becomes the last closed one, and it is judged. -/
def State.closeCheck (i : Fin 16) (serial : Nat) (a : Alternative) (s : State) : State :=
  let s := s.setChk i fun x => { x with
    pending := x.pending.filter fun p => p.serial != serial, lastClosed := some (a.start, a.stop) }
  if s.skips serial a then s
  else if a.pass then s.setChk i fun x => { x with consecutive := 0 }
  else s.checkDefect i serial

/-! ### Resolution (R101) -/

/-- The alternative a resolution keeps, marked as a fallback where the variant is absent (R101). -/
def PendingCheck.kept (p : PendingCheck) (variant : Option (Fin 4)) : Option Alternative :=
  (p.alternatives.find? fun a => a.variant == variant.getD 0).map fun a => { a with fallback := variant.isNone }

/-- CHK resolves a record's checks on one input (R101). -/
def State.resolveInput (r : Record) (s : State) (i : Fin 16) : State :=
  match (s.chkInput i).pending.find? fun p => p.serial == r.serial && !p.resolved with
  | none => s
  | some p =>
    match p.kept r.variant with
    | none => s.setChk i fun x => { x with pending := x.pending.filter fun q => q.serial != r.serial }
    | some a =>
      let s := s.setChk i fun x => { x with
        pending := x.pending.map fun q => if q.serial = r.serial then { q with resolved := true, alternatives := [a] } else q }
      if a.passed then s.closeCheck i r.serial a else s

/-- CHK resolves every unresolved check of a record, inputs ascending (R101, R107). -/
def State.chkResolve (r : Record) (s : State) : State := inputIds.foldl (State.resolveInput r) s

/-! ### Position advances (R103, R107) -/

/-- A position is reached by an advance (R7). -/
def reached (previous new : Nat) (x : Int) : Bool := (previous : Int) < x && x ≤ new

/-- An alternative whose close position the advance has reached has passed (R103). -/
def Alternative.pastClose (previous new : Nat) (a : Alternative) : Alternative :=
  { a with passed := a.passed || reached previous new (a.stop + Config.settleMargin) }

/-- A check of an input closes if it is RESOLVED and its alternative passed on this advance (R103). -/
def State.closeIfDue (previous new : Nat) (i : Fin 16) (s : State) (p : PendingCheck) : State :=
  match p.resolved, p.alternatives with
  | true, [a] =>
    if reached previous new (a.stop + Config.settleMargin) then s.closeCheck i p.serial (a.pastClose previous new) else s
  | _, _ => s

/-- Step 2 of R107 for one input: passed flags, then the closes, in the order of the list. -/
def State.closeInput (previous new : Nat) (s : State) (i : Fin 16) : State :=
  let checks := (s.chkInput i).pending
  let s := s.setChk i fun x => { x with
    pending := x.pending.map fun p => { p with alternatives := p.alternatives.map (Alternative.pastClose previous new) } }
  checks.foldl (State.closeIfDue previous new i) s

/-- CHK's work on a position advance (R107); in SAFE no check passes or closes (R108). -/
def State.chkAdvance (previous new : Nat) (s : State) : State :=
  let s := inputIds.foldl State.acceptOpen s
  if s.sup.line = .safe then s else inputIds.foldl (State.closeInput previous new) s

/-! ### Loss of position, purge and reset (R108, R109) -/

/-- The position has become UNKNOWN (R109). -/
def State.chkLosePosition (s : State) : State :=
  let lose := fun (x : ChkInput) => { x with pulse := .none, lastClosed := none }
  { s with
    chk := inputIds.foldl (fun v i => updateAt v i lose) s.chk
    reg := { s.reg with openCandidate := none } }

/-- The LINE_RESET column of R93. -/
def State.chkReset (s : State) : State :=
  let clear := fun (x : ChkInput) => { x with pending := [], lastClosed := none, consecutive := 0 }
  { s with chk := inputIds.foldl (fun v i => updateAt v i clear) s.chk }

/-- A purged record's pending checks leave every input (R108). -/
def State.chkPurge (serial : Nat) (s : State) : State :=
  let drop := fun (x : ChkInput) => { x with pending := x.pending.filter fun p => p.serial != serial }
  { s with chk := inputIds.foldl (fun v i => updateAt v i drop) s.chk }

end Sys2Proof.Machine
end

