-- ==== Sys2Proof/Machine/Cutting.lean ====
section
/-! DEFINITION. What joins the blocks: the mark decision (R40, R41, R73, R101), the creation of a record (R57), the cut
decision and admission (spec/08, R135 to R138). -/

namespace Sys2Proof.Machine

/-! ### The mark decision (R40, R41) -/

/-- TRQ announces a decision to CAM and CHK, in no given order (R73, R101; log 4). -/
def State.announceDecision (serial : Nat) (s : State) : State :=
  match s.findRecord serial with
  | none => s
  | some r => eitherOrder (State.camResolve r) (State.chkResolve r) s

/-- The mark decision of a pending mark: classification, the lock, one write to the record, and the announcement. -/
def State.decideMark (s : State) (m : PendingMark) : State :=
  match s.findRecord m.serial with
  | none => { s with reg := { s.reg with marks := s.reg.marks.filter fun x => x.serial != m.serial } }
  | some r =>
    let f := s.format r.format
    let o := classify f m.birth m.candidate
    let s := { s with reg := { s.reg with marks := s.reg.marks.filter fun x => x.serial != m.serial } }
    let s := s.lockMark o.error
    let s := (s.writeMark m.serial o).writeMarkDefects m.serial f o
    s.announceDecision m.serial

/-- REG's work on a position advance: the decisions reached, in ascending birth pitch, only in RUN and RUNOUT (R40,
R52). -/
def State.regAdvance (previous new : Nat) (s : State) : State :=
  if s.running then
    (s.reg.marks.filter fun m => reached previous new (m.stop + Config.settleMargin)).foldl State.decideMark s
  else s

/-! ### Creation (R57, R138) -/

/-- TRQ creates a record and announces it to REG, CAM and CHK (R57). REG's poisoning is the first write. -/
def State.createRecord (key : LotKey) (format : Fin 16) (pitch : Nat) (s : State) : State :=
  let serial := (s.trq.serial + 1) % 4294967296
  let r := Record.born serial pitch key format
  let s := { s with trq := { queue := s.trq.queue ++ [r], serial := serial } }
  ((s.regCreate r).camCreate r).chkCreate r

/-- LOT cuts for a lot at the decision for a pitch (R138). -/
def State.cutFor (l : Lot) (pitch : Nat) (s : State) : State :=
  (s.writeLot l.key fun x => { x with cut := countUp x.cut, inFlight := x.inFlight + 1 }).createRecord l.key l.format pitch

/-! ### Admission (R137) -/

/-- The channels test 2 of R137 looks at: the required set and the KNIFE, GATE and FINGER channels. -/
def State.stations (s : State) (f : Format) : List (Fin 24) :=
  channelIds.filter fun c =>
    f.required.getLsbD c.val || (s.channel c).function == .knife || (s.channel c).function == .gate ||
      (s.channel c).function == .finger

/-- Admission of the head QUEUED lot for the decision of a pitch (R137): refused with its fault or stop, or admitted and
cut for. -/
def State.admitLot (l : Lot) (pitch : Nat) (s : State) : State :=
  let (answer, s) := s.askFormat l.format
  match answer with
  | .notValid => s.raise .formatInvalid .stop (.key l.key)
  | .mismatch => s.raise .formatCheck .stop (.key l.key)
  | .valid =>
    let f := s.format l.format
    match (s.stations f).find? fun c => (s.channel c).source != .cam with
    | some c => s.raise .stationMissing .stop (.number c.val)
    | none =>
      if s.lot.runClass ≠ some f.sizeClass then s.defer (.stop .changeover)
      else (s.writeLot l.key fun x => { x with state := .cutting }).cutFor l pitch

/-- Steps 3 and 4 of R135. -/
def State.admitNext (pitch : Nat) (s : State) : State :=
  match s.headQueued with
  | some l => s.admitLot l pitch
  | none => s.defer (.stop .lotsExhausted)

/-- A CUTTING lot closes, and ends at once with none in flight (R136). -/
def State.closeLot (k : LotKey) (s : State) : State :=
  (s.writeLot k fun x => { x with state := .closed }).endIfDone k

/-- The cut decision for a pitch (R135). -/
def State.cutDecision (pitch : Nat) (s : State) : State :=
  if s.pos.v < s.settings.cutMinimum then s
  else
    match s.cuttingLot with
    | some l => if s.committed l < l.target then s.cutFor l pitch else (s.closeLot l.key).admitNext pitch
    | none => s.admitNext pitch

/-- The pitch after pitch k; past the last pitch number a free value (R1, R56; log 36). -/
def nextPitch (k : Nat) : Nat := if k < 4294967295 then k + 1 else Config.pitchBeyond (k + 1) % 4294967296

/-- The pitch whose cut decision point an advance reaches, if any (R135): the last point at or below the new position. -/
def cutPitch (previous new : Nat) : Option Nat :=
  if new < Config.cutAngle then none
  else
    let k := (new - Config.cutAngle) / Config.pitchCounts
    if previous < k * Config.pitchCounts + Config.cutAngle then some (nextPitch k) else none

/-- LOT's work on a position advance: the cut decision, only in RUN (R135). -/
def State.lotAdvance (previous new : Nat) (s : State) : State :=
  if s.sup.line = .run then
    match cutPitch previous new with
    | some p => s.cutDecision p
    | none => s
  else s

end Sys2Proof.Machine
end

