-- ==== Sys2Proof/Machine/Supervisor.lean ====
section
/-! DEFINITION. The line supervisor (spec/09): stops, the run-out's completion, halts, and step 4 of R159. -/

namespace Sys2Proof.Machine

/-- A new line state with its stop reason. -/
def State.setLine (line : LineState) (reason : StopReason) (s : State) : State :=
  { s with sup := { s.sup with line := line, reason := reason } }

/-- The run-out completes (R149). -/
def State.completeRunout (s : State) : State :=
  let previous := s.sup.line
  (((s.setLine .idle s.sup.reason).camRunoutEnd.regOff).placeDrive .stop).lineNotice previous

/-- A stop: taken in RUN, absorbed elsewhere (R147, R148). -/
def State.stop (reason : StopReason) (s : State) : State :=
  if s.sup.line = .run then
    let s := (s.setLine .runout reason).lineNotice .run
    if s.trq.queue.isEmpty then s.completeRunout else s
  else s

/-- The outbound command queue is emptied at entry to SAFE; a frame being sent is finished (R150, R174). -/
def State.emptyOutbound (s : State) : State := { s with rif := { s.rif with outbound := [], overrun := false } }

/-- A halt: taken in IDLE, RUN and RUNOUT, absorbed in SAFE (R150, R151). -/
def State.halt (reason : StopReason) (s : State) : State :=
  if s.sup.line = .safe then s
  else
    let previous := s.sup.line
    ((((s.setLine .safe reason).emptyOutbound.placeDrive .halt).camSafe).regOff).lineNotice previous

/-- One reported stop or halt is taken. -/
def State.applyEffect (s : State) : Deferred → State
  | .stop r => s.stop r
  | .halt r => s.halt r

/-- The reported effects are taken in the order reported. Faults of one block in one operation are ordered so (R159). The
rest of the order is the model's, since R159, R135 and R151 leave it open (DESIGN CHOICE): of the faults of different blocks
raised inside one turn, the one raised first comes first (log 43); the halt of a BOX_OVERFLOW at the lot end inside a cut
decision comes ahead of the CHANGEOVER or LOTS_EXHAUSTED stop of the same decision (log 41). -/
def State.applyEffects (s : State) : State :=
  s.sup.deferred.foldl State.applyEffect { s with sup := { s.sup with deferred := [] } }

/-- Step 4 of R159 as an operation ends: the effects reported in it, and those of an overrun that the completion of a
run-out may raise (R149, R174). -/
def State.settle (s : State) : State := s.applyEffects.applyEffects

/-! ### Retirement (R64) -/

/-- The record at the head is retired when the position reaches (b + s + 1) × 4,096, in RUN and RUNOUT; an empty queue
completes a run-out (R64, R149). -/
def State.trqAdvance (previous new : Nat) (s : State) : State :=
  if s.running then
    match s.trq.queue with
    | [] => s
    | r :: rest =>
      let position := (r.birth + s.settings.deliveryOffset + 1) * Config.pitchCounts
      if reached previous new position then
        let s := s.retireLot r
        let s := { s with trq := { s.trq with queue := rest } }
        if rest.isEmpty ∧ s.sup.line = .runout then s.completeRunout else s
      else s
  else s

end Sys2Proof.Machine
end

