-- ==== Sys2Proof/Machine/Position.lean ====
section
/-! DEFINITION. The position unit (spec/01): samples, speed, the overspeed test, the motion timer, and the advance it
announces to the five blocks. -/

namespace Sys2Proof.Machine

/-! ### Speed (R10, R11) -/

/-- S of a speed history (R11). -/
def speedOf (h : List Interval) : Nat :=
  if h.isEmpty then 0
  else min 131071 ((h.map Interval.counts).sum.toNat * 1000000 / (h.map Interval.time).sum)

/-- V of an S (R11). -/
def cpmOf (speed : Nat) : Nat := speed * 60 / Config.pitchCounts

/-- The history after a sample's interval (R10). -/
def addInterval (h : List Interval) (counts : Int) (time : Nat) : List Interval :=
  if time = 0 then h
  else if time ≤ 50000 then h.drop (h.length - 7) ++ [⟨counts, time⟩]
  else []

/-! ### The held position (R4 to R6) -/

/-- The new raw position: floor at 0 (R4); past 44 bits a free value (log 5). -/
def nextRaw (raw : Nat) (step : Int) : Nat :=
  let sum : Int := raw + step
  if sum < 0 then 0
  else if sum < Config.positionLimit then sum.toNat
  else Config.rawBeyond sum.toNat % Config.positionLimit

/-- What stage 2 finds in RUN and RUNOUT (R6). -/
inductive MotionFault where
  | jump | reverse
deriving DecidableEq, Repr

/-- The motion limits of R6, in their order. -/
def motionFault (running : Bool) (held raw : Nat) (step : Int) : Option MotionFault :=
  if running then
    if 1024 < step then some .jump
    else if raw + 64 < held then some .reverse
    else none
  else none

/-- The held position after stage 2 (R5, R6). -/
def nextHeld (running : Bool) (held raw : Nat) (fault : Option MotionFault) : Nat :=
  if running then
    match fault with
    | some _ => raw
    | none => max held raw
  else raw

/-- The faults of R6, with the pitch number of the held position before the sample. -/
def State.raiseMotion (held raw : Nat) (step : Int) (fault : Option MotionFault) (s : State) : State :=
  match fault with
  | none => s
  | some .jump => s.raiseAt .positionJump .safe (held / Config.pitchCounts) (.number step)
  | some .reverse => s.raiseAt .reverse .safe (held / Config.pitchCounts) (.number ((held : Int) - raw))

/-! ### Overspeed (R12) -/

/-- The overspeed test of a sample (R12). -/
def State.overspeedTest (s : State) : State :=
  let debounce := s.settings.debounce
  if s.settings.overspeed < s.pos.v then
    if s.pos.overRun = debounce then s
    else
      let run := min debounce (s.pos.overRun + 1)
      let s := { s with pos := { s.pos with overRun := run } }
      if run = debounce then s.raise .overspeed .stop (.number s.pos.v) else s
  else { s with pos := { s.pos with overRun := 0 } }

/-! ### Advances (R7) -/

/-- Whose turn it is on an advance: a block, or SUP taking the effects POS reported (R7; log 2, 3). -/
inductive Turn where
  | cam | chk | reg | lot | trq | sup
deriving DecidableEq, Repr

/-- The six turns. -/
def allTurns : List Turn := [.cam, .chk, .reg, .lot, .trq, .sup]

/-- An order of turns picked by a number, one digit a turn: every order of the list is picked by some number. -/
def orderFrom : Nat → List Turn → Nat → List Turn
  | 0, _, _ => []
  | k + 1, turns, n =>
    match turns with
    | [] => []
    | t :: rest =>
      let i := n % (rest.length + 1)
      (turns.getD i t) :: orderFrom k (turns.eraseIdx i) (n / (rest.length + 1))

/-- CAM and TRQ exchanged. -/
def Turn.exchanged : Turn → Turn
  | .cam => .trq | .trq => .cam | .chk => .chk | .reg => .reg | .lot => .lot | .sup => .sup

/-- CAM's turn comes before TRQ's: by the time a record is retired every ON edge of it has been decided (R65), also where
one advance reaches both. -/
def settlesFirst (order : List Turn) : Bool := order.idxOf .cam < order.idxOf .trq

/-- The order a number picks: each of those with CAM before TRQ is picked by some number (R7, R65; log 2). -/
def advanceOrder (n : Nat) : List Turn :=
  let order := orderFrom 6 allTurns n
  if settlesFirst order then order else order.map Turn.exchanged

/-- One turn of an advance. A block's effects are taken as its work ends (R159 step 4); `effects` are those POS
reported. -/
def State.takeTurn (previous new : Nat) (effects : List Deferred) (s : State) : Turn → State
  | .cam => s.camAdvance.settle
  | .chk => (s.chkAdvance previous new).settle
  | .reg => (s.regAdvance previous new).settle
  | .lot => (s.lotAdvance previous new).settle
  | .trq => (s.trqAdvance previous new).settle
  | .sup => { s with sup := { s.sup with deferred := effects } }.settle

/-- An advance in a given order of turns (R7). -/
def State.advanceIn (order : List Turn) (previous new : Nat) (s : State) : State :=
  let effects := s.sup.deferred
  order.foldl (State.takeTurn previous new effects) { s with sup := { s.sup with deferred := [] } }

/-- An advance: the order of the turns is a free choice among those that take CAM before TRQ (R7, R65; log 2). -/
def State.advance (previous new : Nat) (s : State) : State :=
  let (n, s) := s.choose
  s.advanceIn (advanceOrder n) previous new

/-! ### Samples (R2, R3) -/

/-- A sample that establishes the position (R3). -/
def State.establish (count time : Nat) (s : State) : State :=
  { s with pos := { s.pos with
      state := .known, raw := count % Config.pitchCounts, held := count % Config.pitchCounts, lastCount := count,
      lastTime := time, history := [], s := 0, v := 0, overRun := 0, timer := some s.settings.motionTimeout } }

/-- Stages 1 to 5 of R2 for a sample while the position is KNOWN. -/
def State.measure (count time : Nat) (s : State) : State :=
  let p := s.pos
  let step := countStep p.lastCount count
  let raw := nextRaw p.raw step
  let fault := motionFault s.running p.held raw step
  let held := nextHeld s.running p.held raw fault
  let s := { s with pos := { p with raw := raw, lastCount := count, held := held } }
  let s := s.raiseMotion p.held raw step fault
  let history := if fault.isSome then [] else addInterval p.history step ((time + 65536 - p.lastTime % 65536) % 65536)
  let speed := speedOf history
  let s := { s with pos := { s.pos with lastTime := time, history := history, s := speed, v := cpmOf speed } }
  let s := s.overspeedTest
  { s with pos := { s.pos with timer := some s.settings.motionTimeout } }

/-- Whether a sample raised POSITION_JUMP or REVERSE: the test of R6 on the state before it. -/
def State.faulted (count : Nat) (s : State) : Bool :=
  (motionFault s.running s.pos.held (nextRaw s.pos.raw (countStep s.pos.lastCount count))
    (countStep s.pos.lastCount count)).isSome

/-- POS takes an accepted sample whole (R2). -/
def State.takeSample (count time : Nat) (s : State) : State :=
  match s.pos.state with
  | .unknown => s.establish count time
  | .known =>
    let t := s.measure count time
    if !s.faulted count ∧ s.pos.held < t.pos.held then t.advance s.pos.held t.pos.held else t.settle

/-- POS takes a copy of an ANGLE frame: a foreign source is counted (R2). -/
def State.takeAngle (src : Byte) (count time : Nat) (s : State) : State :=
  if src.toNat = s.settings.driveNode then s.takeSample count time else s.bump ctrAngleForeign

/-! ### Loss of the position (R9, R14, R109) -/

/-- The position becomes UNKNOWN: speed cleared, timer stopped, and CHK drops its pulses (R9, R14, R109). -/
def State.losePosition (s : State) : State :=
  { s with pos := { s.pos with state := .unknown, history := [], s := 0, v := 0, overRun := 0, timer := none } }.chkLosePosition

/-- The motion timer runs out (R9). The detail is the timeout it was loaded with, which a later change of the setting
does not touch (R8; log 15). -/
def State.motionLost (loaded : Nat) (s : State) : State :=
  let effect : Effect := if s.running then .safe else .none
  ((s.raise .motionLost effect (.number loaded)).losePosition).settle

end Sys2Proof.Machine
end

