-- ==== Sys2Proof/Machine/StoreCommands.lean ====
section
/-! DEFINITION. The requests on the format store: CHANNEL_SET, INPUT_SET, MAP_SET, SETTINGS_SET and the five FORMAT
requests (spec/02). Each has its owner's tests and effect, and its meaning. -/

namespace Sys2Proof.Machine

/-- The results of CHANNEL_SET, INPUT_SET and SETTINGS_SET: a count and the ascending format numbers (R178). -/
def invalidatedList (ids : List (Fin 16)) : List Byte :=
  bigEndian 1 ids.length ++ ids.flatMap fun f => bigEndian 1 (formatNumber f)

/-! ### CHANNEL_SET (R21) -/

/-- Test 4 of R21: another channel already holds a function of which the table holds at most one. -/
def Store.functionTaken (st : Store) (c : Fin 24) (fn : ActFunction) : Bool :=
  (fn == .knife || fn == .gate || fn == .finger) &&
    channelIds.any fun d => d != c && (st.channels.get d).function == fn

/-- The VALID formats that name an actuator channel (R21). -/
def Store.validNaming (st : Store) (c : Fin 24) : List (Fin 16) :=
  formatIds.filter fun f => (st.formats.get f).state == .valid && (st.formats.get f).namesChannel c

/-- A changed channel record is stored and the formats it touches become INVALID (R21). -/
def Store.setChannel (st : Store) (c : Fin 24) (new : Channel) : Store :=
  { st with channels := st.channels.set c new }.invalidate (st.validNaming c)

/-- The tests and effect of CHANNEL_SET, in the order of R21. -/
def channelSetOwner (a : ChannelArgs) (s : State) : State × Reply :=
  if s.sup.line ≠ .idle then (s, .plain .badState)
  else
    match index? 24 a.channel.toNat with
    | none => (s, .plain .unknownId)
    | some c =>
      match channelRecord a with
      | none => (s, .plain .badValue)
      | some new =>
        if s.store.functionTaken c new.function then (s, .plain .badValue)
        else if new = s.channel c then (s, .one .accepted (invalidatedList []))
        else if formatIds.any fun f => (s.format f).namesChannel c && s.inUse f then (s, .plain .inUse)
        else
          ({ s with store := s.store.setChannel c new }, .one .accepted (invalidatedList (s.store.validNaming c)))

def doChannelSet (src tag : Byte) (a : ChannelArgs) (s : State) : State :=
  takeRequest src 1 tag 1 (channelSetOwner a) s

/-- CHANNEL_SET (R21). -/
def execChannelSet (src tag : Byte) (a : ChannelArgs) (s : State) : Host.Outcome State Fault Refusal :=
  .next (doChannelSet src tag a s)

/-! ### INPUT_SET (R21, R110) -/

/-- The VALID formats that name an input channel (R21, R24). -/
def Store.validNamingInput (st : Store) (i : Fin 16) : List (Fin 16) :=
  formatIds.filter fun f => (st.formats.get f).state == .valid && (st.formats.get f).namesInput st.inputs i

/-- A changed input record is stored and the formats it touches become INVALID (R21). -/
def Store.setInput (st : Store) (i : Fin 16) (new : Input) : Store :=
  { st with inputs := st.inputs.set i new }.invalidate (st.validNamingInput i)

/-- What an accepted change of an input does to CHK for that input (R110). -/
def State.chkInputSet (i : Fin 16) (s : State) : State :=
  let s := if (s.input i).function = .mark then { s with reg := { s.reg with openCandidate := none } } else s
  s.setChk i fun x => { x with pulse := .none, lastClosed := none, consecutive := 0 }

/-- The tests and effect of INPUT_SET, in the order of R21; an identical record changes nothing (log 16). -/
def inputSetOwner (a : InputArgs) (s : State) : State × Reply :=
  if s.sup.line ≠ .idle then (s, .plain .badState)
  else
    match index? 16 a.input.toNat with
    | none => (s, .plain .unknownId)
    | some i =>
      match inputRecord a with
      | none => (s, .plain .badValue)
      | some new =>
        if new.function = .mark ∧ inputIds.any fun j => j != i && (s.input j).function == .mark then
          (s, .plain .badValue)
        else if new = s.input i then (s, .one .accepted (invalidatedList []))
        else if formatIds.any fun f => (s.format f).namesInput s.store.inputs i && s.inUse f then (s, .plain .inUse)
        else
          let t := s.chkInputSet i
          ({ t with store := t.store.setInput i new }, .one .accepted (invalidatedList (s.store.validNamingInput i)))

def doInputSet (src tag : Byte) (a : InputArgs) (s : State) : State :=
  takeRequest src 2 tag 1 (inputSetOwner a) s

/-- INPUT_SET (R21, R110). -/
def execInputSet (src tag : Byte) (a : InputArgs) (s : State) : Host.Outcome State Fault Refusal :=
  .next (doInputSet src tag a s)

/-! ### MAP_SET (R22) -/

/-- The tests and effect of MAP_SET; an enable code other than 0 and 1 is refused first (log 24, 42). -/
def mapSetOwner (a : MapArgs) (s : State) : State × Reply :=
  match yesNo? a.enable.toNat with
  | none => (s, .plain .badValue)
  | some enable =>
    if s.sup.line ≠ .idle then (s, .plain .badState)
    else
      match index? 16 a.index.toNat with
      | none => (s, .plain .unknownId)
      | some i =>
        match mapRecord a enable with
        | none => (s, .plain .badValue)
        | some e => ({ s with store := { s.store with map := s.store.map.set i e } }, .plain .accepted)

def doMapSet (src tag : Byte) (a : MapArgs) (s : State) : State := takeRequest src 3 tag 1 (mapSetOwner a) s

/-- MAP_SET (R22). -/
def execMapSet (src tag : Byte) (a : MapArgs) (s : State) : Host.Outcome State Fault Refusal :=
  .next (doMapSet src tag a s)

/-! ### SETTINGS_SET (R23, R14) -/

/-- The VALID formats that fail a timing check under a delivery offset (R23). -/
def Store.untimely (st : Store) (deliveryOffset : Nat) : List (Fin 16) :=
  formatIds.filter fun f =>
    (st.formats.get f).state == .valid && (firstFailure 1 (timingChecks st deliveryOffset (st.formats.get f))).isSome

/-- The effect of accepted settings: stored, formats rechecked where the delivery offset changed, and the position lost
where the drive node changed (R23, R14). -/
def State.applySettings (new : Settings) (ids : List (Fin 16)) (s : State) : State :=
  let old := s.settings
  let s := { s with store := { s.store with settings := new }.invalidate ids }
  if new.driveNode ≠ old.driveNode then s.losePosition else s

/-- The tests and effect of SETTINGS_SET, in the order of R23. -/
def settingsSetOwner (a : SettingsArgs) (s : State) : State × Reply :=
  if s.sup.line ≠ .idle then (s, .plain .badState)
  else
    match settingsRecord a with
    | none => (s, .plain .badValue)
    | some new =>
      if new.deliveryOffset = s.settings.deliveryOffset then
        (s.applySettings new [], .one .accepted (invalidatedList []))
      else if !s.lot.table.isEmpty then (s, .plain .inUse)
      else
        let ids := s.store.untimely new.deliveryOffset
        (s.applySettings new ids, .one .accepted (invalidatedList ids))

def doSettingsSet (src tag : Byte) (a : SettingsArgs) (s : State) : State :=
  takeRequest src 4 tag 1 (settingsSetOwner a) s

/-- SETTINGS_SET (R23, R14). -/
def execSettingsSet (src tag : Byte) (a : SettingsArgs) (s : State) : Host.Outcome State Fault Refusal :=
  .next (doSettingsSet src tag a s)

/-! ### FORMAT_OPEN and FORMAT_ERASE (R26, R27, R29) -/

/-- The format of a number 1 to 16 (R26). -/
def formatId? (id : Byte) : Option (Fin 16) := if id.toNat = 0 then none else index? 16 (id.toNat - 1)

/-- FORMAT_OPEN: a format not in use is emptied and becomes OPEN (R27). -/
def formatOpenOwner (id : Byte) (s : State) : State × Reply :=
  match formatId? id with
  | none => (s, .plain .unknownId)
  | some f => if s.inUse f then (s, .plain .inUse) else (s.setFormat f fun _ => Format.blank .open, .plain .accepted)

def doFormatOpen (src tag id : Byte) (s : State) : State := takeRequest src 5 tag 1 (formatOpenOwner id) s

/-- FORMAT_OPEN (R27). -/
def execFormatOpen (src tag id : Byte) (s : State) : Host.Outcome State Fault Refusal := .next (doFormatOpen src tag id s)

/-- FORMAT_ERASE: a format not in use is emptied and becomes EMPTY (R29). -/
def formatEraseOwner (id : Byte) (s : State) : State × Reply :=
  match formatId? id with
  | none => (s, .plain .unknownId)
  | some f => if s.inUse f then (s, .plain .inUse) else (s.setFormat f fun _ => Format.blank .empty, .plain .accepted)

def doFormatErase (src tag id : Byte) (s : State) : State := takeRequest src 8 tag 1 (formatEraseOwner id) s

/-- FORMAT_ERASE (R29). -/
def execFormatErase (src tag id : Byte) (s : State) : Host.Outcome State Fault Refusal :=
  .next (doFormatErase src tag id s)

/-! ### FORMAT_LOAD (R28) -/

/-- The tests and effect of FORMAT_LOAD, in the order of R26 and R28. The entries the items add are the growth of the
format's lists. -/
def formatLoadOwner (id : Byte) (items : List LoadItem) (s : State) : State × Reply :=
  match formatId? id with
  | none => (s, .plain .unknownId)
  | some f =>
    let old := s.format f
    if old.state ≠ .open then (s, .plain .badState)
    else if items.isEmpty ∨ 8 < items.length then (s, .plain .badValue)
    else
      match readItems items with
      | none => (s, .plain .badValue)
      | some loads =>
        let new := loads.foldl Format.load old
        if s.store.freeWindows < new.windowCount - old.windowCount ∨
            s.store.freeChecks < new.checkCount - old.checkCount then (s, .plain .full)
        else
          let t := s.setFormat f fun _ => new
          (t, .one .accepted (bigEndian 2 new.windowCount ++ bigEndian 2 new.checkCount ++
            bigEndian 2 t.store.freeWindows ++ bigEndian 2 t.store.freeChecks))

def doFormatLoad (src tag id : Byte) (items : List LoadItem) (s : State) : State :=
  takeRequest src 6 tag 1 (formatLoadOwner id items) s

/-- FORMAT_LOAD (R28). -/
def execFormatLoad (src tag id : Byte) (items : List LoadItem) (s : State) : Host.Outcome State Fault Refusal :=
  .next (doFormatLoad src tag id items s)

/-! ### FORMAT_COMMIT (R31) -/

/-- The results of a failed field or timing check: its number, variant and channel, 255 for none (R178). -/
def failureResults (number : Nat) (subject : Subject) : List Byte :=
  bigEndian 1 number ++ bigEndian 1 (match subject.1 with | some v => v.val | none => 255) ++
    bigEndian 1 (subject.2.getD 255)

/-- The three groups of checks of R31, in order. -/
def formatCommitOwner (id : Byte) (sum : Half) (s : State) : State × Reply :=
  match formatId? id with
  | none => (s, .plain .unknownId)
  | some f =>
    let fmt := s.format f
    if fmt.state ≠ .open then (s, .plain .badState)
    else
      match firstFailure 1 (fieldChecks s.store fmt) with
      | some (n, subjects) =>
        let (k, s) := s.choose
        (s, .one .badValue (failureResults n (pickSubject k subjects)))
      | none =>
        match firstFailure 1 (timingChecks s.store s.settings.deliveryOffset fmt) with
        | some (n, subjects) =>
          let (k, s) := s.choose
          (s, .one .timing (failureResults n (pickSubject k subjects)))
        | none =>
          let computed := fmt.contentSum (formatNumber f)
          if computed = sum.toNat then
            (s.setFormat f fun x => { x with state := .valid, storedSum := computed }, .one .accepted (bigEndian 2 computed))
          else
            (s.setFormat f fun x => { x with state := .invalid, storedSum := computed },
              .one .checkFail (bigEndian 2 computed))

def doFormatCommit (src tag id : Byte) (sum : Half) (s : State) : State :=
  takeRequest src 7 tag 1 (formatCommitOwner id sum) s

/-- FORMAT_COMMIT (R31). -/
def execFormatCommit (src tag id : Byte) (sum : Half) (s : State) : Host.Outcome State Fault Refusal :=
  .next (doFormatCommit src tag id sum s)

/-! ### FORMAT_READ (R30) -/

/-- A class on page 0. R30 and R178 give an absent one a present byte (its codes: log 42) and no value for its two widths:
they are free values (log 35). -/
def classBytes (free : Nat) : Option MarkClass → List Byte
  | none => bigEndian 1 0 ++ bigEndian 2 (Config.absentWidth free) ++ bigEndian 2 (Config.absentWidth (free + 1))
  | some c => bigEndian 1 1 ++ bigEndian 2 c.min ++ bigEndian 2 c.max

/-- Page 0 of FORMAT_READ (R30, R178). -/
def pageZero (s : State) (f : Fin 16) : List Byte :=
  let x := s.format f
  bigEndian 1 x.state.code ++ bigEndian 1 (flag 1 (s.inUse f)) ++ bigEndian 2 x.storedSum ++
    bigEndian 1 (formatNumber f) ++ bigEndian 1 x.sizeClass ++ bigEndian 4 x.required.toNat ++ bigEndian 2 x.nominal ++
    bigEndian 2 x.half ++ (variants.flatMap fun v => classBytes (8 * s.free + 2 * v.val) (x.classes.get v)) ++
    bigEndian 1 x.lockWindow ++ bigEndian 2 x.warn ++
    bigEndian 2 x.reject ++ bigEndian 1 x.gain ++ bigEndian 1 x.stepMax ++ bigEndian 2 x.trimMax ++
    bigEndian 1 x.lossLimit ++ bigEndian 1 x.holdoff ++ bigEndian 1 x.span ++ bigEndian 1 (flag 1 x.acceptUnlocked) ++
    (x.programs.toList.flatMap fun p => bigEndian 1 p.windows.length ++ bigEndian 1 p.checks.length) ++
    bigEndian 2 s.store.freeWindows ++ bigEndian 2 s.store.freeChecks

/-- A window entry on a page, 9 bytes (R178). -/
def windowBytes (v : Fin 4) (w : WindowEntry) : List Byte :=
  bigEndian 1 3 ++ bigEndian 1 v.val ++ bigEndian 1 w.channel.val ++ bigEndian 2 w.on ++ bigEndian 2 w.off ++ [0, 0]

/-- A check entry on a page, 9 bytes (R178). -/
def checkBytes (v : Fin 4) (k : CheckEntry) : List Byte :=
  bigEndian 1 4 ++ bigEndian 1 v.val ++ bigEndian 1 k.input.val ++ bigEndian 2 k.start ++ bigEndian 2 k.stop ++
    bigEndian 1 k.expect.code ++ bigEndian 1 (match k.paired with | some c => c.val | none => 255)

/-- A format's entries in the one list of R30. -/
def Format.entryList (f : Format) : List (List Byte) :=
  variants.flatMap fun v => ((f.program v).windows.map (windowBytes v)) ++ (f.program v).checks.map (checkBytes v)

/-- Page n, from 1: entries 16 (n − 1) to 16 n − 1 (R30). -/
def pageEntries (s : State) (f : Fin 16) (page : Nat) : List Byte :=
  let entries := ((s.format f).entryList.drop (16 * (page - 1))).take 16
  bigEndian 1 entries.length ++ entries.flatten

/-- FORMAT_READ changes nothing (R30). -/
def formatReadOwner (id page : Byte) (s : State) : State × Reply :=
  match formatId? id with
  | none => (s, .plain .unknownId)
  | some f => (s, .one .accepted (if page.toNat = 0 then pageZero s f else pageEntries s f page.toNat))

def doFormatRead (src tag id page : Byte) (s : State) : State := takeRequest src 9 tag 1 (formatReadOwner id page) s

/-- FORMAT_READ (R30). -/
def execFormatRead (src tag id page : Byte) (s : State) : Host.Outcome State Fault Refusal :=
  .next (doFormatRead src tag id page s)

end Sys2Proof.Machine
end

