-- ==== Sys2Proof/Machine/LotCommands.lean ====
section
/-! DEFINITION. The requests on lots: LOT_ADD, LOT_CANCEL, LOT_READ (spec/08, R132 to R134). -/

namespace Sys2Proof.Machine

/-! ### LOT_ADD (R132) -/

/-- The tests and effect of LOT_ADD; a make-up code other than 0 and 1 is refused first (R178; log 24). -/
def lotAddOwner (a : LotArgs) (s : State) : State × Reply :=
  match yesNo? a.makeUp.toNat with
  | none => (s, .plain .badValue)
  | some makeUp =>
    match formatId? a.format with
    | none => (s, .plain .unknownId)
    | some f =>
      let key : LotKey := ⟨a.id.toNat, 0⟩
      if a.id.toNat = 0 ∨ a.target.toNat = 0 ∨ 1000000 < a.target.toNat ∨ a.batchSize.toNat = 0 ∨
          5000 < a.batchSize.toNat then (s, .plain .badValue)
      else if (s.findLot key).isSome then (s, .plain .badValue)
      else if (s.format f).state ≠ .valid then (s, .plain .badState)
      else if Config.lotPlaces ≤ s.lot.table.length then (s, .plain .full)
      else
        let table := s.lot.table ++ [Lot.create key f a.target.toNat a.batchSize.toNat makeUp]
        ({ s with lot := { s.lot with table := table } },
          .one .accepted (bigEndian 1 s.lot.table.length ++ bigEndian 1 table.length))

def doLotAdd (src tag : Byte) (a : LotArgs) (s : State) : State := takeRequest src 10 tag 1 (lotAddOwner a) s

/-- LOT_ADD (R132). -/
def execLotAdd (src tag : Byte) (a : LotArgs) (s : State) : Host.Outcome State Fault Refusal :=
  .next (doLotAdd src tag a s)

/-! ### LOT_CANCEL (R133) -/

def cancelReply (r : CancelResult) : Reply := .one .accepted (bigEndian 1 r.code)

/-- The effect of LOT_CANCEL by the lot's state (R133). -/
def lotCancelOwner (id : Half) (makeUp : Byte) (s : State) : State × Reply :=
  let key : LotKey := ⟨id.toNat, makeUp.toNat⟩
  match s.findLot key with
  | none => (s, .plain .unknownId)
  | some l =>
    match l.state with
    | .queued =>
      ({ s with lot := { s.lot with table := s.lot.table.filter fun x => x.key != key } }, cancelReply .removed)
    | .cutting =>
      let t := s.writeLot key fun x => { x with state := .closed, makeUp := false }
      if l.inFlight = 0 then ((t.endLot key 0).1, cancelReply .ended) else (t, cancelReply .closed)
    | .closed => (s.writeLot key fun x => { x with makeUp := false }, cancelReply .closed)

/-- A BOX_OVERFLOW at the lot's end has its effect after the request (R124, R159; log 14). -/
def doLotCancel (src tag : Byte) (id : Half) (makeUp : Byte) (s : State) : State :=
  (takeRequest src 11 tag 1 (lotCancelOwner id makeUp) s).settle

/-- LOT_CANCEL (R133). -/
def execLotCancel (src tag : Byte) (id : Half) (makeUp : Byte) (s : State) : Host.Outcome State Fault Refusal :=
  .next (doLotCancel src tag id makeUp s)

/-! ### LOT_READ (R134) -/

/-- The place and the lot a selector names: by key 0, by place 1 (R134, R178). -/
def State.selectLot (s : State) (selector : Nat) (id : Half) (place : Byte) : Option (Nat × Lot) :=
  let n := if selector = 0 then s.lot.table.findIdx fun l => l.key == ⟨id.toNat, place.toNat⟩ else place.toNat
  (s.lot.table[n]?).map fun l => (n, l)

/-- LOT_READ changes nothing (R134). -/
def lotReadOwner (selector : Byte) (id : Half) (place : Byte) (s : State) : State × Reply :=
  if 1 < selector.toNat then (s, .plain .badValue)
  else
    match s.selectLot selector.toNat id place with
    | none => (s, .plain .unknownId)
    | some (n, l) => (s, .one .accepted (l.bytes n s.lot.table.length (s.committed l)))

def doLotRead (src tag selector : Byte) (id : Half) (place : Byte) (s : State) : State :=
  takeRequest src 12 tag 1 (lotReadOwner selector id place) s

/-- LOT_READ (R134). -/
def execLotRead (src tag selector : Byte) (id : Half) (place : Byte) (s : State) : Host.Outcome State Fault Refusal :=
  .next (doLotRead src tag selector id place s)

end Sys2Proof.Machine
end

