-- ==== Sys2Proof/Machine/LineCommands.lean ====
section
/-! DEFINITION. The requests on the line: LINE_START, LINE_STOP, LINE_HALT, LINE_CLEAR, LINE_RESET and MANUAL_SET
(spec/09, R88). -/

namespace Sys2Proof.Machine

/-- The running size class as sent: 0 for absent (R178). -/
def classCode (c : Option Nat) : Nat := c.getD 0

/-! ### LINE_START (R146) -/

/-- The results of LINE_START: line state, running class, failed test (R178). -/
def startResults (s : State) (test : Nat) : List Byte :=
  bigEndian 1 s.sup.line.code ++ bigEndian 1 (classCode s.lot.runClass) ++ bigEndian 1 test

/-- The starting lot: the CUTTING lot, else the head QUEUED one (R51, R141). -/
def State.startingLot (s : State) : Option Lot :=
  match s.cuttingLot with
  | some l => some l
  | none => s.headQueued

/-- The start, one operation, steps 1 to 5 of R146. -/
def State.start (l : Lot) (s : State) : State :=
  let f := s.format l.format
  let s := s.setLine .run .none
  let s := { s with lot := { s.lot with runClass := some f.sizeClass } }
  ((s.regStart f f.sizeClass).placeDrive .run).lineNotice .idle

/-- The three tests of LINE_START and the start (R146). -/
def lineStartOwner (s : State) : State × Reply :=
  if s.sup.line ≠ .idle then (s, .one .badState (startResults s 1))
  else if s.pos.state ≠ .known then (s, .one .badState (startResults s 2))
  else
    match s.startingLot with
    | none => (s, .one .badState (startResults s 3))
    | some l =>
      let t := s.start l
      (t, .one .accepted (startResults t 0))

def doLineStart (src tag : Byte) (s : State) : State := (takeRequest src 13 tag 1 lineStartOwner s).settle

/-- LINE_START (R146). -/
def execLineStart (src tag : Byte) (s : State) : Host.Outcome State Fault Refusal := .next (doLineStart src tag s)

/-! ### LINE_STOP and LINE_HALT (R147, R150) -/

/-- The line state as a result (R178). -/
def lineResults (s : State) : List Byte := bigEndian 1 s.sup.line.code

/-- A stop request (R147, R148). -/
def lineStopOwner (s : State) : State × Reply :=
  let t := s.stop .request
  (t, .one .accepted (lineResults t))

def doLineStop (src tag : Byte) (s : State) : State := (takeRequest src 14 tag 1 lineStopOwner s).settle

/-- LINE_STOP (R147, R148). -/
def execLineStop (src tag : Byte) (s : State) : Host.Outcome State Fault Refusal := .next (doLineStop src tag s)

/-- A halt request (R150, R151). -/
def lineHaltOwner (s : State) : State × Reply :=
  let t := s.halt .request
  (t, .one .accepted (lineResults t))

def doLineHalt (src tag : Byte) (s : State) : State := (takeRequest src 15 tag 1 lineHaltOwner s).settle

/-- LINE_HALT (R150, R151). -/
def execLineHalt (src tag : Byte) (s : State) : Host.Outcome State Fault Refusal := .next (doLineHalt src tag s)

/-! ### LINE_CLEAR (R152, R67) -/

/-- A record whose batch end is withdrawn, its slot otherwise kept (R67 step 1). -/
def Record.withdrawn (r : Record) : Record := { r with slot := r.slot.map fun x => { x with batchEnd := false } }

/-- One record purged: steps 1 to 4 of R67. -/
def State.purgeRecord (s : State) (r : Record) : State :=
  let r := r.withdrawn
  let s := s.writeLot r.lot fun l => l.purge r
  let s := { s with reg := s.reg.withoutMarks fun m => m.serial == r.serial }
  let s := s.chkPurge r.serial
  { s with trq := { s.trq with queue := s.trq.queue.tail } }

/-- The purge: every record, head first (R67), then every lot's batch state at its delivery point (R126). -/
def State.purge (s : State) : State :=
  let s := s.trq.queue.foldl State.purgeRecord s
  { s with lot := { s.lot with table := s.lot.table.map Lot.toDeliveryPoint } }

/-- LINE_CLEAR (R152): the purge, the ends of CLOSED lots, and the line to IDLE. Effects of faults raised meet the line in
SAFE and are absorbed. -/
def lineClearOwner (s : State) : State × Reply :=
  if s.sup.line ≠ .safe then (s, .plain .badState)
  else
    let purged := s.trq.queue.length
    let s := s.purge
    let (s, ended) := endAll s.endingKeys 0 0 s
    let s := s.settle
    let s := (s.setLine .idle s.sup.reason).lineNotice .safe
    (s, .one .accepted (bigEndian 1 purged ++ bigEndian 1 ended))

def doLineClear (src tag : Byte) (s : State) : State := (takeRequest src 16 tag 1 lineClearOwner s).settle

/-- LINE_CLEAR (R152). -/
def execLineClear (src tag : Byte) (s : State) : Host.Outcome State Fault Refusal := .next (doLineClear src tag s)

/-! ### LINE_RESET (R153) -/

/-- Step 1 of R153: every block empties or resets its state. -/
def State.resetBlocks (s : State) : State :=
  { s with lot := LotUnit.reset, trq := { s.trq with queue := [] } }.camClear.chkReset.regReset

/-- LINE_RESET (R153). -/
def lineResetOwner (s : State) : State × Reply :=
  if s.running then (s, .plain .badState)
  else
    let previous := s.sup.line
    (((s.resetBlocks.setLine .idle .none).placeTrim).lineNotice previous, .plain .accepted)

def doLineReset (src tag : Byte) (s : State) : State := (takeRequest src 17 tag 1 lineResetOwner s).settle

/-- LINE_RESET (R153). -/
def execLineReset (src tag : Byte) (s : State) : Host.Outcome State Fault Refusal := .next (doLineReset src tag s)

/-! ### MANUAL_SET (R88) -/

/-- The level a MANUAL_SET asks for: OFF 0 and ON 1, the codes of the OUTPUT frame it places. R178 gives the byte of the
request no codes of its own (PRESUMED; log 37). -/
def manualLevel? (code : Nat) : Option Bool := yesNo? code

/-- The tests and effect of MANUAL_SET, in the order of R88. -/
def manualSetOwner (channel level : Byte) (s : State) : State × Reply :=
  if s.sup.line ≠ .idle then (s, .plain .badState)
  else
    match index? 24 channel.toNat with
    | none => (s, .plain .unknownId)
    | some c =>
      match manualLevel? level.toNat with
      | none => (s, .plain .badValue)
      | some on =>
        if (s.channel c).source ≠ .manual then (s, .plain .badValue)
        else
          let t := (s.placeImmediate c on).setCam c fun x => { x with level := if on then .on else .off }
          (t, .plain .accepted)

def doManualSet (src tag channel level : Byte) (s : State) : State :=
  (takeRequest src 18 tag 1 (manualSetOwner channel level) s).settle

/-- MANUAL_SET (R88). -/
def execManualSet (src tag channel level : Byte) (s : State) : Host.Outcome State Fault Refusal :=
  .next (doManualSet src tag channel level s)

end Sys2Proof.Machine
end

