-- ==== Sys2Proof/Machine/ReadCommands.lean ====
section
/-! DEFINITION. The reads and the log: STATUS_READ, TRACK_READ, COUNTERS_READ, LOG_READ, LOG_CLEAR (spec/10, R70). -/

namespace Sys2Proof.Machine

/-! ### STATUS_READ (R165, R166) -/

/-- Part 1 of the status picture, 86 bytes (R178, 12.5). -/
def statusPartOne (s : State) : List Byte :=
  bigEndian 1 s.sup.line.code ++ bigEndian 1 s.sup.reason.code ++ bigEndian 4 s.sup.reason.sequence ++
    bigEndian 4 s.sup.lastSequence ++ bigEndian 1 s.sup.log.length ++ bigEndian 1 s.sup.overflow ++
    bigEndian 1 s.pos.state.code ++ bigEndian 4 s.pitch ++ bigEndian 2 (s.pos.held % Config.pitchCounts) ++
    bigEndian 3 s.pos.s ++ bigEndian 2 s.pos.v ++ bigEndian 1 s.reg.lock.code ++ bigEndianInt 2 s.reg.trim ++
    bigEndian 1 (flag 1 s.reg.lost) ++ bigEndian 1 (flag 1 s.rif.linkUp) ++ bigEndian 1 (flag 1 s.rif.linkDownFlag) ++
    (s.cam.toList.flatMap fun x => bigEndian 1 x.level.code) ++
    s.chk.toList.flatMap fun x => bigEndian 1 x.pulse.code ++ bigEndian 1 x.consecutive

/-- One lot of the summary, 8 bytes. -/
def lotSummary (l : Lot) : List Byte := l.key.bytes ++ bigEndian 1 l.state.code ++ bigEndian 4 l.inFlight

/-- One box entry, 10 bytes. -/
def boxBytes (e : BoxEntry) : List Byte := e.batch.bytes ++ bigEndian 1 e.deadline

/-- Part 2 of the status picture, 87 bytes: places beyond a count carry 0 (R178). -/
def statusPartTwo (s : State) : List Byte :=
  bigEndian 1 (classCode s.lot.runClass) ++ bigEndian 1 s.lot.table.length ++
    padTo 64 (s.lot.table.flatMap lotSummary) ++ bigEndian 1 s.lot.boxes.length ++
    padTo 20 (s.lot.boxes.flatMap boxBytes)

/-- The picture is returned, and both latched flags are cleared (R165, R166). -/
def statusReadOwner (s : State) : State × Reply :=
  ({ s with reg := { s.reg with lost := false }, rif := { s.rif with linkDownFlag := false } },
    ⟨.accepted, [statusPartOne s, statusPartTwo s]⟩)

def doStatusRead (src tag : Byte) (s : State) : State := takeRequest src 19 tag 2 statusReadOwner s

/-- STATUS_READ (R165, R166). -/
def execStatusRead (src tag : Byte) (s : State) : Host.Outcome State Fault Refusal := .next (doStatusRead src tag s)

/-! ### TRACK_READ (R70) -/

/-- The head of 8 bytes and the records, head first (R70, R178). -/
def trackBytes (s : State) : List Byte :=
  bigEndian 1 s.sup.line.code ++ bigEndian 1 s.settings.deliveryOffset ++ bigEndian 1 (s.settings.deliveryOffset + 2) ++
    bigEndian 4 s.trq.serial ++ bigEndian 1 s.trq.queue.length ++ s.trq.queue.flatMap Record.bytes

/-- TRACK_READ changes nothing (R70). -/
def trackReadOwner (s : State) : State × Reply := (s, ⟨.accepted, cutParts 8 (trackBytes s)⟩)

/-- The parts TRACK_READ needs (R178). -/
def trackParts (s : State) : Nat := partCount (8 + 57 * s.trq.queue.length)

def doTrackRead (src tag : Byte) (s : State) : State := takeRequest src 20 tag (trackParts s) trackReadOwner s

/-- TRACK_READ (R70). -/
def execTrackRead (src tag : Byte) (s : State) : Host.Outcome State Fault Refusal := .next (doTrackRead src tag s)

/-! ### COUNTERS_READ (R164) -/

/-- The group of a counter, as its bit of the groups byte (R163, R178). -/
def counterGroup (c : Fin 38) : Nat :=
  if c.val < 2 then 0 else if c.val < 8 then 1 else if c.val < 11 then 2 else if c.val < 20 then 3
  else if c.val < 36 then 4 else 5

/-- The counters of the chosen groups, ascending (R164). -/
def chosenCounters (groups : Byte) : List (Fin 38) :=
  (List.finRange 38).filter fun c => groups.getLsbD (counterGroup c)

/-- Counters set to 0. -/
def clearCounters (ids : List (Fin 38)) (v : Vector Nat 38) : Vector Nat 38 :=
  ids.foldl (fun (v : Vector Nat 38) (c : Fin 38) => v.set c 0) v

/-- The chosen counters are returned, and cleared when asked (R164). -/
def countersReadOwner (groups clear : Byte) (s : State) : State × Reply :=
  if groups.toNat = 0 ∨ 64 ≤ groups.toNat ∨ 1 < clear.toNat then (s, .plain .badValue)
  else
    let ids := chosenCounters groups
    let reply : Reply := .one .accepted (ids.flatMap fun c => bigEndian 2 (s.sup.counters.get c))
    if clear.toNat = 1 then ({ s with sup := { s.sup with counters := clearCounters ids s.sup.counters } }, reply)
    else (s, reply)

def doCountersRead (src tag groups clear : Byte) (s : State) : State :=
  takeRequest src 21 tag 1 (countersReadOwner groups clear) s

/-- COUNTERS_READ (R164). -/
def execCountersRead (src tag groups clear : Byte) (s : State) : Host.Outcome State Fault Refusal :=
  .next (doCountersRead src tag groups clear s)

/-! ### LOG_READ and LOG_CLEAR (R161, R162) -/

/-- The log records at or above a sequence (R161). -/
def State.logFrom (s : State) (first : Nat) : List FaultRecord := s.sup.log.filter fun r => first ≤ r.sequence

/-- The head of 7 bytes and the records (R161, R178). -/
def logBytes (s : State) (first : Nat) : List Byte :=
  bigEndian 4 s.sup.lastSequence ++ bigEndian 1 s.sup.log.length ++ bigEndian 1 s.sup.overflow ++
    bigEndian 1 (s.logFrom first).length ++ (s.logFrom first).flatMap FaultRecord.bytes

/-- LOG_READ changes nothing (R161). -/
def logReadOwner (first : Quad) (s : State) : State × Reply := (s, ⟨.accepted, cutParts 2 (logBytes s first.toNat)⟩)

/-- The parts LOG_READ needs (R178). -/
def logParts (first : Quad) (s : State) : Nat := partCount (7 + 15 * (s.logFrom first.toNat).length)

def doLogRead (src tag : Byte) (first : Quad) (s : State) : State :=
  takeRequest src 22 tag (logParts first s) (logReadOwner first) s

/-- LOG_READ (R161). -/
def execLogRead (src tag : Byte) (first : Quad) (s : State) : Host.Outcome State Fault Refusal :=
  .next (doLogRead src tag first s)

/-- LOG_CLEAR judged in the order of R162. -/
def logClearOwner (sequence : Quad) (s : State) : State × Reply :=
  let results := bigEndian 4 s.sup.lastSequence
  if s.sup.log.isEmpty ∧ s.sup.overflow = 0 then (s, .one .accepted results)
  else if sequence.toNat = s.sup.lastSequence then
    ({ s with sup := { s.sup with log := [], overflow := 0 } }, .one .accepted results)
  else (s, .one .stale results)

def doLogClear (src tag : Byte) (sequence : Quad) (s : State) : State :=
  takeRequest src 23 tag 1 (logClearOwner sequence) s

/-- LOG_CLEAR (R162). -/
def execLogClear (src tag : Byte) (sequence : Quad) (s : State) : Host.Outcome State Fault Refusal :=
  .next (doLogClear src tag sequence s)

end Sys2Proof.Machine
end

