-- ==== Sys2Proof/Machine/RingCommands.lean ====
section
/-! DEFINITION. The commands of the pins, the ring and the timers: POWER_ON_RESET, SIGNAL_DETECTED, SIGNAL_LOST,
FRAME_RECEIVED, ANGLE, MOTION_TIMER_EXPIRY, EDGE, TRANSMIT_DONE, REQUEST_UNDECODED, FRAME_CUT_SHORT (spec/11, spec/01). -/

namespace Sys2Proof.Machine

/-! ### Reset and signal (R168, R169, R172) -/

/-- POWER_ON_RESET: every block at its power-on values, the own address from the strap pins (R168, R172). The waiting
commands and the index of the free values are not the part's own and stay (log 23). -/
def execPowerOnReset (strap : BitVec 4) (s : State) : Host.Outcome State Fault Refusal :=
  .next (State.powerOn strap s.free s.pending)

/-- SIGNAL_DETECTED: the link comes UP without fault or notice (R169). -/
def execSignalDetected (s : State) : Host.Outcome State Fault Refusal :=
  .next { s with rif := { s.rif with linkUp := true } }

/-- The signal is lost (R169): from UP, the link is DOWN, the flag set, a frame in receipt fails its check (R170), and
LINK_DOWN is raised. -/
def State.loseSignal (inReceipt : Bool) (s : State) : State :=
  if s.rif.linkUp then
    let cut := inReceipt || 0 < s.rif.partialBytes
    let s := { s with rif := { s.rif with linkUp := false, linkDownFlag := true, partialBytes := 0 } }
    (s.bumpIf cut ctrBadCheck).raise .linkDown .none (.number 0)
  else s

/-- SIGNAL_LOST (R169). -/
def execSignalLost (inReceipt : Bool) (s : State) : Host.Outcome State Fault Refusal := .next (s.loseSignal inReceipt)

/-! ### Copies of broadcast frames (R2, R94, R178) -/

/-- A byte of a payload; a place the payload does not have is a free value (log 9). -/
def payloadByte (payload : List Byte) (i : Nat) : Byte :=
  match payload[i]? with
  | some b => b
  | none => BitVec.ofNat 8 (Config.missingByte i)

/-- A two-byte field of a payload. -/
def payloadHalf (payload : List Byte) (i : Nat) : Nat := (half (payloadByte payload i) (payloadByte payload (i + 1))).toNat

/-- The point an EDGE frame's point byte is read as (log 9). -/
def edgePoint (b : Byte) : Nat := if b.toNat ≤ 15 then b.toNat else Config.oddPoint b.toNat % 16

/-- The level an EDGE frame's level byte is read as (log 9). -/
def edgeLevel (b : Byte) : InLevel :=
  match inLevel? b.toNat with
  | some l => l
  | none => if Config.oddLevel b.toNat then .high else .low

/-- The copy of an ANGLE frame handed to POS. -/
def State.angleCopy (src : Byte) (payload : List Byte) (s : State) : State :=
  s.takeAngle src (payloadHalf payload 0) (payloadHalf payload 2)

/-- The copy of an EDGE frame handed to CHK. -/
def State.edgeCopy (src : Byte) (payload : List Byte) (s : State) : State :=
  s.takeEdge src (edgePoint (payloadByte payload 0)) (edgeLevel (payloadByte payload 1)) (payloadHalf payload 2)

/-! ### Requests taken off the ring (R176) -/

/-- A byte of an undecoded request echoed, 0 where the payload is too short (R176 step 1). -/
def echoByte (payload : List Byte) (i : Nat) : Byte := payload.getD i 0

/-- A request that names no code or has a wrong length: answered BAD_VALUE and nothing else (R176 step 1). -/
def doRequestUndecoded (src : Byte) (payload : List Byte) (s : State) : State :=
  takeRequest src (echoByte payload 0) (echoByte payload 1) 1 (fun s => (s, .plain .badValue)) s

/-- The request a payload spells, executed (R176). -/
def serveRequest (src : Byte) (payload : List Byte) (s : State) : State :=
  match decodeRequest src payload with
  | some (.channelSet src tag a) => doChannelSet src tag a s
  | some (.inputSet src tag a) => doInputSet src tag a s
  | some (.mapSet src tag a) => doMapSet src tag a s
  | some (.settingsSet src tag a) => doSettingsSet src tag a s
  | some (.formatOpen src tag id) => doFormatOpen src tag id s
  | some (.formatLoad src tag id items) => doFormatLoad src tag id items s
  | some (.formatCommit src tag id sum) => doFormatCommit src tag id sum s
  | some (.formatErase src tag id) => doFormatErase src tag id s
  | some (.formatRead src tag id page) => doFormatRead src tag id page s
  | some (.lotAdd src tag a) => doLotAdd src tag a s
  | some (.lotCancel src tag id makeUp) => doLotCancel src tag id makeUp s
  | some (.lotRead src tag selector id place) => doLotRead src tag selector id place s
  | some (.lineStart src tag) => doLineStart src tag s
  | some (.lineStop src tag) => doLineStop src tag s
  | some (.lineHalt src tag) => doLineHalt src tag s
  | some (.lineClear src tag) => doLineClear src tag s
  | some (.lineReset src tag) => doLineReset src tag s
  | some (.manualSet src tag channel level) => doManualSet src tag channel level s
  | some (.statusRead src tag) => doStatusRead src tag s
  | some (.trackRead src tag) => doTrackRead src tag s
  | some (.countersRead src tag groups clear) => doCountersRead src tag groups clear s
  | some (.logRead src tag first) => doLogRead src tag first s
  | some (.logClear src tag sequence) => doLogClear src tag sequence s
  | _ => doRequestUndecoded src payload s

/-- REQUEST_UNDECODED (R176 step 1). A payload that does spell a request is that request's, and is executed as it. -/
def execRequestUndecoded (src : Byte) (payload : List Byte) (s : State) : Host.Outcome State Fault Refusal :=
  .next (serveRequest src payload s)

/-! ### Received frames (R170, R171) -/

/-- A frame forwarded (R171, R173). -/
def State.forward (bytes : List Byte) (s : State) : State := { s with rif := s.rif.forwardFrame bytes }

/-- A frame that has passed its check, by the first row of R171 that applies. A copy is handed to its block before the
frame is forwarded. -/
def State.handleFrame (dst src kind : Byte) (payload bytes : List Byte) (s : State) : State :=
  if src = s.rif.own then s
  else if dst = s.rif.own then
    if kind = kindRequest then serveRequest src payload s else s
  else if dst = broadcast ∧ kind = kindAngle then (s.angleCopy src payload).forward bytes
  else if dst = broadcast ∧ kind = kindEdge then (s.edgeCopy src payload).forward bytes
  else s.forward bytes

/-- A frame received in full: nothing arrives while the link is DOWN (R169; log 8); the check decides whether it is
handled or dropped and counted (R170). -/
def State.receive (dst src kind : Byte) (payload : List Byte) (check : Half) (s : State) : State :=
  if s.rif.linkUp then
    let s := { s with rif := { s.rif with partialBytes := 0 } }
    let body := frameBody dst src kind payload
    if payload.length ≤ 240 ∧ frameCheck body = check then
      s.handleFrame dst src kind payload (body ++ halfBytes check)
    else s.bump ctrBadCheck
  else s

/-- A frame whose bytes do not make a whole one: it fails the check (R170). -/
def State.receiveBroken (s : State) : State :=
  if s.rif.linkUp then { s with rif := { s.rif with partialBytes := 0 } }.bump ctrBadCheck else s

/-- The fields of received bytes: destination, source, kind, payload and check; none where they do not agree with their
length field. -/
def splitFrame : List Byte → Option (Byte × Byte × Byte × List Byte × Half)
  | dst :: src :: kind :: len :: rest =>
    match rest.drop len.toNat with
    | [hi, lo] => some (dst, src, kind, rest.take len.toNat, half hi lo)
    | _ => none
  | _ => none

/-- ANGLE: a broadcast ANGLE frame (R2, R171 row 4). -/
def execAngle (src : Byte) (count time check : Half) (s : State) : Host.Outcome State Fault Refusal :=
  .next (s.receive broadcast src kindAngle (halfBytes count ++ halfBytes time) check)

/-- EDGE: a broadcast EDGE frame (R94, R171 row 5). -/
def execEdge (src point level : Byte) (count check : Half) (s : State) : Host.Outcome State Fault Refusal :=
  .next (s.receive broadcast src kindEdge (point :: level :: halfBytes count) check)

/-! ### The motion timer (R8, R9) -/

/-- MOTION_TIMER_EXPIRY: a running timer runs out; a stopped one cannot (R9; log 12). -/
def execMotionTimerExpiry (s : State) : Host.Outcome State Fault Refusal :=
  .next (match s.pos.timer with
    | some loaded => s.motionLost loaded
    | none => s)

/-! ### The transmitter and the receive port (R173, R178) -/

/-- The transmitter ends its frame and the arbiter chooses the next (R173). `partialBytes` is what the forward buffer
then holds of frames not yet whole; none while the link is DOWN (log 10). An idle transmitter ends nothing (log 12). -/
def Rif.finish (r : Rif) (partialBytes : Nat) : Rif :=
  match r.tx with
  | .idle => r
  | .sending _ _ => { r with tx := .idle, partialBytes := if r.linkUp then partialBytes else 0 }.arbitrate

/-- TRANSMIT_DONE (R173). -/
def execTransmitDone (partialBytes : Nat) (s : State) : Host.Outcome State Fault Refusal :=
  .next { s with rif := s.rif.finish partialBytes }

/-- A frame ended short: it fails its check and is counted; a new opening's ten bytes begin the next frame (R170, R178). -/
def State.cutShort (cause : CutCause) (s : State) : State :=
  if s.rif.linkUp then
    { s with rif := { s.rif with partialBytes := match cause with | .newOpening => 10 | .tooLong => 0 } }.bump ctrBadCheck
  else s

/-- The bytes of a whole frame, from the destination on, taken (R170, R171). -/
def State.takeFrame (bytes : List Byte) (s : State) : State :=
  match splitFrame bytes with
  | some (dst, src, kind, payload, check) => s.receive dst src kind payload check
  | none => s.receiveBroken

/-- Whether an opening in received bytes ends their frame short: one before the last byte does; one that ends with it is
left open (R178; log 34). -/
def cutByOpening (bytes : List Byte) : Bool :=
  carriesOpening bytes.dropLast || (carriesOpening bytes && Config.endOpeningCuts)

/-- FRAME_RECEIVED (R170, R171). Bytes that carry an opening are those of a frame that the opening ended short; the frame
it begins is another command (R178; log 34). -/
def execFrameReceived (bytes : List Byte) (s : State) : Host.Outcome State Fault Refusal :=
  .next (if cutByOpening bytes then s.cutShort .newOpening else s.takeFrame bytes)

/-- FRAME_CUT_SHORT (R178). -/
def execFrameCutShort (cause : CutCause) (s : State) : Host.Outcome State Fault Refusal := .next (s.cutShort cause)

end Sys2Proof.Machine
end

