-- ==== Sys2Proof/Machine/Dispatch.lean ====
section
/-! DEFINITION. exec: one arm per constructor of Instr. -/

namespace Sys2Proof.Machine

def exec (i : Instr) (s : State) : Host.Outcome State Fault Refusal :=
  match i with
  | .powerOnReset strap => Sys2Proof.Machine.execPowerOnReset strap s
  | .signalDetected => Sys2Proof.Machine.execSignalDetected s
  | .signalLost inReceipt => Sys2Proof.Machine.execSignalLost inReceipt s
  | .frameReceived bytes => Sys2Proof.Machine.execFrameReceived bytes s
  | .angle src count time check => Sys2Proof.Machine.execAngle src count time check s
  | .motionTimerExpiry => Sys2Proof.Machine.execMotionTimerExpiry s
  | .edge src point level count check => Sys2Proof.Machine.execEdge src point level count check s
  | .transmitDone partialBytes => Sys2Proof.Machine.execTransmitDone partialBytes s
  | .requestUndecoded src payload => Sys2Proof.Machine.execRequestUndecoded src payload s
  | .channelSet src tag a => Sys2Proof.Machine.execChannelSet src tag a s
  | .inputSet src tag a => Sys2Proof.Machine.execInputSet src tag a s
  | .mapSet src tag a => Sys2Proof.Machine.execMapSet src tag a s
  | .settingsSet src tag a => Sys2Proof.Machine.execSettingsSet src tag a s
  | .formatOpen src tag id => Sys2Proof.Machine.execFormatOpen src tag id s
  | .formatLoad src tag id items => Sys2Proof.Machine.execFormatLoad src tag id items s
  | .formatCommit src tag id sum => Sys2Proof.Machine.execFormatCommit src tag id sum s
  | .formatErase src tag id => Sys2Proof.Machine.execFormatErase src tag id s
  | .formatRead src tag id page => Sys2Proof.Machine.execFormatRead src tag id page s
  | .lotAdd src tag a => Sys2Proof.Machine.execLotAdd src tag a s
  | .lotCancel src tag id makeUp => Sys2Proof.Machine.execLotCancel src tag id makeUp s
  | .lotRead src tag selector id place => Sys2Proof.Machine.execLotRead src tag selector id place s
  | .lineStart src tag => Sys2Proof.Machine.execLineStart src tag s
  | .lineStop src tag => Sys2Proof.Machine.execLineStop src tag s
  | .lineHalt src tag => Sys2Proof.Machine.execLineHalt src tag s
  | .lineClear src tag => Sys2Proof.Machine.execLineClear src tag s
  | .lineReset src tag => Sys2Proof.Machine.execLineReset src tag s
  | .manualSet src tag channel level => Sys2Proof.Machine.execManualSet src tag channel level s
  | .statusRead src tag => Sys2Proof.Machine.execStatusRead src tag s
  | .trackRead src tag => Sys2Proof.Machine.execTrackRead src tag s
  | .countersRead src tag groups clear => Sys2Proof.Machine.execCountersRead src tag groups clear s
  | .logRead src tag first => Sys2Proof.Machine.execLogRead src tag first s
  | .logClear src tag sequence => Sys2Proof.Machine.execLogClear src tag sequence s
  | .frameCutShort cause => Sys2Proof.Machine.execFrameCutShort cause s

end Sys2Proof.Machine
end

