-- ==== Sys2Proof/WellFormed.lean ====
section
/-! DEFINITION. Which commands can occur: what the ring and R178's frame layouts admit. A command outside these
checks names a frame that no ring can carry. -/

namespace Sys2Proof

/-- Ring addresses run from 0 to 63 (R168). -/
def ringAddress (b : Byte) : Bool := b.toNat ≤ 63

/-- A whole frame: header, payload and check, as long as its length field says, at most 240 payload bytes (R170, R178). -/
def wholeFrame (bytes : List Byte) : Bool :=
  match bytes with
  | _ :: _ :: _ :: len :: rest => len.toNat ≤ 240 && rest.length == len.toNat + 2
  | _ => false

/-- A payload with its length byte before it carries no opening: one would have ended its frame short (R178; log 34). -/
def uncutPayload (payload : List Byte) : Bool := !carriesOpening (BitVec.ofNat 8 payload.length :: payload)

/-- No opening ended the frame of a request short (R178; log 34). -/
def uncutRequest (i : Instr) : Bool :=
  match encodeRequest i with
  | some payload => uncutPayload payload
  | none => true

/-- The fields a command can have. -/
def fieldsOccur : Instr → Bool
  | .powerOnReset _ => true
  | .signalDetected => true
  | .signalLost _ => true
  | .frameReceived bytes => wholeFrame bytes && !carriesOpening bytes.dropLast
  | .angle src _ _ _ => ringAddress src
  | .motionTimerExpiry => true
  | .edge src point level _ _ => ringAddress src && point.toNat ≤ 15 && level.toNat ≤ 1
  | .transmitDone n => n ≤ 1024
  | .requestUndecoded src payload =>
    ringAddress src && payload.length ≤ 240 && (decodeRequest src payload).isNone && uncutPayload payload
  | .channelSet src _ _ => ringAddress src
  | .inputSet src _ _ => ringAddress src
  | .mapSet src _ _ => ringAddress src
  | .settingsSet src _ _ => ringAddress src
  | .formatOpen src _ _ => ringAddress src
  | .formatLoad src _ _ items => ringAddress src && items.length ≤ 23
  | .formatCommit src _ _ _ => ringAddress src
  | .formatErase src _ _ => ringAddress src
  | .formatRead src _ _ _ => ringAddress src
  | .lotAdd src _ _ => ringAddress src
  | .lotCancel src _ _ _ => ringAddress src
  | .lotRead src _ _ _ _ => ringAddress src
  | .lineStart src _ => ringAddress src
  | .lineStop src _ => ringAddress src
  | .lineHalt src _ => ringAddress src
  | .lineClear src _ => ringAddress src
  | .lineReset src _ => ringAddress src
  | .manualSet src _ _ _ => ringAddress src
  | .statusRead src _ => ringAddress src
  | .trackRead src _ => ringAddress src
  | .countersRead src _ _ _ => ringAddress src
  | .logRead src _ _ => ringAddress src
  | .logClear src _ _ => ringAddress src
  | .frameCutShort _ => true

/-- The commands that can occur. -/
def WellFormed (i : Instr) : Bool := fieldsOccur i && uncutRequest i

end Sys2Proof
end

