-- ==== Sys2Proof/Safety.lean ====
section
/-! DEFINITION. What the statements speak of: when a request is taken and answered, the request a command carries, and
the laws a sound state keeps (queue bounds, the fault log, the trim, the lot table). -/

namespace Sys2Proof.Machine

/-! ### Requests -/

/-- A request from a source is taken and its response has room: the link is UP, the source is not the part, and the
management queue has that many free, unreserved places (R169, R171, R176 step 2). -/
def State.Takes (s : State) (src : Byte) (parts : Nat) : Prop :=
  s.rif.linkUp = true ∧ src ≠ s.rif.own ∧ parts ≤ s.rif.freePlaces

/-- RIF with the parts of a response placed, after a whole frame was received (R176 step 4). -/
def Rif.answer (r : Rif) (src code tag : Byte) (reply : Reply) : Rif :=
  { r with partialBytes := 0 }.respond src code tag reply.status 1 reply.parts

/-- A state with the parts of a response placed. -/
def State.answered (s : State) (src code tag : Byte) (reply : Reply) : State :=
  { s with rif := s.rif.answer src code tag reply }

/-- A state after a whole frame was received and nothing was placed or forwarded. -/
def State.heard (s : State) : State := { s with rif := { s.rif with partialBytes := 0 } }

/-- The request a command carries for the part of an address: a request row is its own, and received bytes may spell one
(R171 row 2, R176). -/
def carried (own : Byte) : Instr → Option Instr
  | .frameReceived bytes =>
    match splitFrame bytes with
    | some (dst, src, kind, payload, _) =>
      if dst = own ∧ kind = kindRequest ∧ cutByOpening bytes = false then decodeRequest src payload else none
    | none => none
  | .requestUndecoded src payload => decodeRequest src payload
  | i => (encodeRequest i).map fun _ => i

/-- How many frames the response to a request takes (R176 step 2, R178). -/
def responseParts (s : State) : Instr → Nat
  | .statusRead _ _ => 2
  | .trackRead _ _ => trackParts s
  | .logRead _ _ first => logParts first s
  | _ => 1

/-! ### Layouts -/

/-- The number that n bytes of a string spell from a place on, most significant first (R178, byte order). -/
def fieldAt (bytes : List Byte) (start n : Nat) : Nat :=
  ((bytes.drop start).take n).foldl (fun x b => x * 256 + b.toNat) 0

/-- A string of bytes carries a layout: rows of first byte, width in bytes, and the value sent in that width. -/
def carries (bytes : List Byte) (layout : List (Nat × Nat × Nat)) : Prop :=
  ∀ row ∈ layout, fieldAt bytes row.1 row.2.1 = row.2.2 % 256 ^ row.2.1

/-! ### Laws of the state -/

/-- The bounds of the speed history, the queues of RIF, the fault log, the lot table, the box queue and the counters (R1,
R113, R129, R157, R163, R168), and nothing reserved between commands (R176 step 4). -/
def State.Bounded (s : State) : Prop :=
  s.pos.history.length ≤ 8 ∧ s.rif.outbound.length ≤ 64 ∧ s.rif.management.length ≤ 16 ∧ s.rif.reserved = 0 ∧
    s.sup.log.length ≤ 16 ∧ s.sup.overflow ≤ 255 ∧ s.lot.table.length ≤ 8 ∧ s.lot.boxes.length ≤ 2 ∧
    ∀ c : Fin 38, s.sup.counters.get c ≤ 65535

/-- Strictly rising. -/
def rising : List Nat → Prop
  | [] => True
  | [_] => True
  | a :: b :: rest => a < b ∧ rising (b :: rest)

/-- The fault log is in strictly ascending sequence, each at most the last fault sequence, which is 32 bits (R157). -/
def State.LogOrdered (s : State) : Prop :=
  rising (s.sup.log.map FaultRecord.sequence) ∧ (∀ r ∈ s.sup.log, r.sequence ≤ s.sup.lastSequence) ∧
    s.sup.lastSequence ≤ 4294967295

/-- The trim lies within plus or minus the trim max of the settings in force, and is 0 without them; they are present
with the trim class (R36, R46, R51). -/
def State.TrimHeld (s : State) : Prop :=
  (s.reg.trimClass.isSome ↔ s.reg.inForce.isSome) ∧
    match s.reg.inForce with
    | none => s.reg.trim = 0
    | some f => -(f.trimMax : Int) ≤ s.reg.trim ∧ s.reg.trim ≤ f.trimMax

/-- The rank of a lot state in the table's order (R131). -/
def LotState.rank : LotState → Nat
  | .closed => 0 | .cutting => 1 | .queued => 2

/-- The table holds the CLOSED lots, then at most one CUTTING lot, then the QUEUED lots, and no two lots have one key
(R130, R131). -/
def State.LotsOrdered (s : State) : Prop :=
  (s.lot.table.map fun l => l.state.rank).Pairwise (fun a b => a ≤ b) ∧
    (s.lot.table.countP fun l => l.state == .cutting) ≤ 1 ∧ (s.lot.table.map Lot.key).Nodup

/-- Every record in the queue belongs to a lot in the table, a lot's in-flight count is the number of its records, and a
QUEUED lot has none (R130, R133, R138, R139). -/
def State.FlightsCounted (s : State) : Prop :=
  (∀ r ∈ s.trq.queue, ∃ l ∈ s.lot.table, l.key = r.lot) ∧
    ∀ l ∈ s.lot.table, (l.inFlight = s.trq.queue.countP fun r => r.lot == l.key) ∧ (l.state = .queued → l.inFlight = 0)

/-- No stop or halt is left untaken (R159 step 4). -/
def State.Settled (s : State) : Prop := s.sup.deferred = []

/-- The line is RUN or RUNOUT only while the position is KNOWN (R13). -/
def State.RunsKnown (s : State) : Prop := s.running = true → s.pos.state = .known

end Sys2Proof.Machine
end

