-- ==== Sys2Proof/Certificates/Slice0/Obligations.lean ====
section
/-! DEFINITION. The statements about the model, for the provers. Each docstring names the rules of spec/ it rests on. -/

open Sys2Proof Sys2Proof.Machine

/-! ### The queue of commands and the wire -/

/-- A step runs the command at the front of the queue with the queue's rest; an empty queue idles, which is the model's
choice (log 1). -/
def Obligations.StepTakesTheFrontCommand : Prop :=
  (∀ (c : Instr) (rest : List Instr) (s : State), step { s with pending := c :: rest } = exec c { s with pending := rest }) ∧
    ∀ s : State, s.pending = [] → step s = .next s

/-- Every command answers a next state in every state; no command is stopped (95). It leaves the commands that wait: their
queue is the model's own field, not the spec's (log 1), and that POWER_ON_RESET leaves it too is the model's choice
(log 23). -/
def Obligations.EveryCommandAnswersNext : Prop :=
  ∀ (i : Instr) (s : State), ∃ t, exec i s = .next t ∧ t.pending = s.pending

/-- Reading the payload of a request that can occur gives the request back, and a payload that reads as a request is that
request's payload: no byte of it is dropped (R178). -/
def Obligations.RequestPayloadReadsBack : Prop :=
  (∀ (i : Instr) (p : List Byte), WellFormed i = true → encodeRequest i = some p →
    ∃ src, requestSource i = some src ∧ decodeRequest src p = some i) ∧
  ∀ (src : Byte) (p : List Byte) (i : Instr), decodeRequest src p = some i →
    encodeRequest i = some p ∧ requestSource i = some src

/-- Received bytes that carry no opening do what the command they spell does: ANGLE and EDGE frames, and REQUEST frames to
the own address (R170, R171, R176, R178). That FRAME_RECEIVED and REQUEST_UNDECODED with bytes that spell another row do
what that row does is the model's choice (log 29). -/
def Obligations.ReceivedFrameDoesWhatItSpells : Prop :=
  (∀ (src : Byte) (count time check : Half) (s : State),
      exec (.frameReceived (angleBody src count time ++ halfBytes check)) s = exec (.angle src count time check) s) ∧
    (∀ (src point level : Byte) (count check : Half) (s : State),
      exec (.frameReceived (edgeBody src point level count ++ halfBytes check)) s =
        exec (.edge src point level count check) s) ∧
    ∀ (src : Byte) (payload : List Byte) (s : State), s.Settled → payload.length ≤ 240 →
      let body := frameBody s.rif.own src kindRequest payload
      (carriesOpening (body ++ halfBytes (frameCheck body)) = false →
        exec (.frameReceived (body ++ halfBytes (frameCheck body))) s = exec (.requestUndecoded src payload) s) ∧
        ∀ i, decodeRequest src payload = some i → exec (.requestUndecoded src payload) s = exec i s

/-- The check of the nine digits is 29B1 hex, and a frame the part sends is the opening, then bytes that read back as the
destination, the part's own address, the kind, the payload and the check of what precedes it (R170, R172, R178). -/
def Obligations.SentFrameReadsBackWithItsCheck : Prop :=
  frameCheck [0x31, 0x32, 0x33, 0x34, 0x35, 0x36, 0x37, 0x38, 0x39] = 0x29B1#16 ∧
  ∀ (own dst kind : Byte) (payload : List Byte), payload.length ≤ 240 →
    (wireFrame own dst kind payload).take 10 = [0xA5, 0xA5, 0xA5, 0xA5, 0xA5, 0xA5, 0xA5, 0xA5, 0xA5, 0x3C] ∧
      (wireFrame own dst kind payload).length = 16 + payload.length ∧
      splitFrame ((wireFrame own dst kind payload).drop 10) =
        some (dst, own, kind, payload, frameCheck (frameBody dst own kind payload))

/-! ### Reset, the link and the transmitter -/

/-- POWER_ON_RESET gives every item the power-on value its rule names (R1, R16, R20, R36, R55, R71, R93, R112, R113, R129,
R145, R157, R163, R168, R172); no other command changes the own address, which is the source of every frame the part
sends (R172). A format without content holds the values after FORMAT_OPEN, as R29 gives them to an erased one (log 40). The
commands that wait and the index of the free values stay: the model's choice (log 23). -/
def Obligations.PowerOnGivesEveryBlockItsValues : Prop :=
  (∀ (strap : BitVec 4) (s : State), ∃ t, exec (.powerOnReset strap) s = .next t ∧
    t.pos = ⟨.unknown, 0, 0, 0, 0, [], 0, 0, 0, none⟩ ∧
    (∀ c, t.channel c = ⟨0, 0, .general, 0, 0, 0, 0, 0, .fireAlways, .off, .disabled⟩) ∧
    (∀ i, t.input i = ⟨.unused, 0, .high, 0, 0⟩) ∧
    (∀ i : Fin 16, t.store.map.get i = ⟨false, 0, 0, 0⟩) ∧
    t.settings = ⟨1, 2, 0, 20, 60, 1800, 4, 12, 40⟩ ∧
    (∀ f, (t.format f).allWindows = [] ∧ (t.format f).allChecks = [] ∧ t.format f = {
      state := .empty, storedSum := 0, sizeClass := 0, required := 0, nominal := 0, half := 0
      classes := Vector.replicate 4 none, lockWindow := 0, warn := 0, reject := 0, gain := 0, stepMax := 0, trimMax := 0
      lossLimit := 0, holdoff := 0, span := 0, acceptUnlocked := false, programs := Vector.replicate 4 ⟨[], []⟩ }) ∧
    t.store.freeWindows = 512 ∧ t.store.freeChecks = 256 ∧
    t.reg = ⟨.off, 0, 0, 0, 0, 0, none, none, false, [], none⟩ ∧ t.trq = ⟨[], 0⟩ ∧
    (∀ c, t.camChannel c = ⟨[], none, .none, 0⟩) ∧ (∀ i, t.chkInput i = ⟨.none, [], none, 0⟩) ∧
    t.lot = ⟨[], none, []⟩ ∧ t.sup.line = .idle ∧ t.sup.reason = .none ∧ t.sup.lastSequence = 0 ∧ t.sup.log = [] ∧
    t.sup.overflow = 0 ∧ (∀ c : Fin 38, t.sup.counters.get c = 0) ∧ t.sup.deferred = [] ∧
    t.rif.own.toNat = 32 + strap.toNat ∧ t.rif.linkUp = false ∧ t.rif.linkDownFlag = false ∧ t.rif.forward = [] ∧
    t.rif.partialBytes = 0 ∧ t.rif.outbound = [] ∧ t.rif.overrun = false ∧ t.rif.management = [] ∧ t.rif.reserved = 0 ∧
    t.rif.tx = .idle ∧ t.free = s.free ∧ t.pending = s.pending) ∧
  (∀ (i : Instr) (s t : State), (∀ strap, i ≠ .powerOnReset strap) → exec i s = .next t → t.rif.own = s.rif.own) ∧
    ∀ (f : OutFrame) (g : MgmtFrame) (own : Byte), (f.wire own)[11]? = some own ∧ (g.wire own)[11]? = some own

/-- The link follows the signal: detection brings it UP and does nothing else; a loss while DOWN does nothing; a loss while
UP takes it DOWN, sets the flag, counts a frame cut short, and raises LINK_DOWN with effect NONE and detail 0
(R169, R170, R159). That the operand of SIGNAL_LOST or the field partialBytes tells whether a frame is in receipt, and that
partialBytes becomes 0, is the model's choice (log 10). -/
def Obligations.LinkFollowsTheSignal : Prop :=
  (∀ s : State, exec .signalDetected s = .next { s with rif := { s.rif with linkUp := true } }) ∧
    (∀ (cut : Bool) (s : State), s.rif.linkUp = false → exec (.signalLost cut) s = .next s) ∧
    ∀ (cut : Bool) (s : State), s.rif.linkUp = true → ∃ t, exec (.signalLost cut) s = .next t ∧
      t.rif.linkUp = false ∧ t.rif.linkDownFlag = true ∧ t.rif.partialBytes = 0 ∧
      (s.sup.lastSequence < 4294967295 → t.sup.lastSequence = s.sup.lastSequence + 1) ∧
      (s.sup.lastSequence < 4294967295 → s.sup.log.length < 16 →
        t.sup.log = s.sup.log ++ [⟨s.sup.lastSequence + 1, .linkDown, .none, s.sup.line, s.pitch, .number 0⟩]) ∧
      (t.sup.counters.get ctrBadCheck =
        if cut = true ∨ 0 < s.rif.partialBytes then saturate (s.sup.counters.get ctrBadCheck)
        else s.sup.counters.get ctrBadCheck) ∧
      t.sup.line = s.sup.line ∧ t.sup.reason = s.sup.reason ∧ t.sup.deferred = s.sup.deferred ∧
      t = { s with rif := t.rif, sup := t.sup }

/-- While the link is DOWN nothing arrives: frames, reports and requests leave the state as it is (R169; that such a
command has no effect is the model's choice, log 8). -/
def Obligations.NothingArrivesWhileTheLinkIsDown : Prop :=
  ∀ (i : Instr) (s : State), s.rif.linkUp = false → s.Settled →
    (∀ strap, i ≠ .powerOnReset strap) → i ≠ .signalDetected → i ≠ .motionTimerExpiry → (∀ n, i ≠ .transmitDone n) →
    exec i s = .next s

/-- The rows of R171 for a frame that passes its check, carries no opening (R178), and is not a copy for POS or CHK or a
request to the part: own source removed, own destination dropped, the rest forwarded unchanged. A forwarded frame joins the
tail of the forward buffer while the transmitter is busy; while it is idle the oldest frame of the buffer is sent (R173). -/
def Obligations.ReceivedFrameIsRemovedDroppedOrForwarded : Prop :=
  (∀ (dst src kind : Byte) (payload : List Byte) (s : State), s.rif.linkUp = true → payload.length ≤ 240 →
    let body := frameBody dst src kind payload
    let bytes := body ++ halfBytes (frameCheck body)
    carriesOpening bytes = false →
    (src = s.rif.own → exec (.frameReceived bytes) s = .next s.heard) ∧
      (src ≠ s.rif.own → dst = s.rif.own → kind ≠ 6 → exec (.frameReceived bytes) s = .next s.heard) ∧
      (src ≠ s.rif.own → dst ≠ s.rif.own → ¬(dst = 63 ∧ (kind = 1 ∨ kind = 2)) →
        exec (.frameReceived bytes) s = .next { s with rif := s.heard.rif.forwardFrame bytes })) ∧
  ∀ (r : Rif) (bytes : List Byte),
    (∀ src sent, r.tx = .sending src sent → r.forwardFrame bytes = { r with forward := r.forward ++ [bytes] }) ∧
    (r.tx = .idle → r.forward = [] → r.forwardFrame bytes = { r with tx := .sending .forward (opening ++ bytes) }) ∧
    ∀ f rest, r.tx = .idle → r.forward = f :: rest →
      r.forwardFrame bytes = { r with forward := rest ++ [bytes], tx := .sending .forward (opening ++ f) }

/-- A frame that fails its check is dropped and counted once, and nothing else changes (R170, R178): a wrong check of any
frame, a length above 240 or other than the bytes received (that such bytes fail the check is the model's choice, log 9),
a frame cut short, and bytes with an opening before their last one, which are a frame the opening cut short. An opening that
ends with the last byte cuts the frame or does not, which is left free (log 34). -/
def Obligations.FailingFrameIsOnlyCounted : Prop :=
  ∀ s : State, s.rif.linkUp = true →
    let counted : State → State := fun s =>
      { s with sup := { s.sup with
          counters := s.sup.counters.set ctrBadCheck (saturate (s.sup.counters.get ctrBadCheck)) } }
    (∀ (dst src kind : Byte) (payload : List Byte) (check : Half),
        payload.length ≤ 240 → check ≠ frameCheck (frameBody dst src kind payload) →
        carriesOpening (frameBody dst src kind payload ++ halfBytes check) = false →
        exec (.frameReceived (frameBody dst src kind payload ++ halfBytes check)) s = .next (counted s.heard)) ∧
      (∀ (dst src kind len : Byte) (rest : List Byte), 240 < len.toNat ∨ rest.length ≠ len.toNat + 2 →
        carriesOpening (dst :: src :: kind :: len :: rest) = false →
        exec (.frameReceived (dst :: src :: kind :: len :: rest)) s = .next (counted s.heard)) ∧
      (∀ bytes : List Byte, bytes.length < 4 → exec (.frameReceived bytes) s = .next (counted s.heard)) ∧
      (∀ (src : Byte) (count time check : Half), check ≠ frameCheck (angleBody src count time) →
        exec (.angle src count time check) s = .next (counted s.heard)) ∧
      (∀ (src point level : Byte) (count check : Half), check ≠ frameCheck (edgeBody src point level count) →
        exec (.edge src point level count check) s = .next (counted s.heard)) ∧
      exec (.frameCutShort .tooLong) s = .next (counted s.heard) ∧
      (∃ t, exec (.frameCutShort .newOpening) s = .next t ∧ t.heard = counted s.heard) ∧
      (∀ bytes : List Byte, carriesOpening bytes.dropLast = true →
        exec (.frameReceived bytes) s = exec (.frameCutShort .newOpening) s) ∧
      ∀ bytes : List Byte, carriesOpening bytes = true → carriesOpening bytes.dropLast = false →
        exec (.frameReceived bytes) s = exec (.frameCutShort .newOpening) s ∨
          exec (.frameReceived bytes) s = .next (s.takeFrame bytes)

/-- TRANSMIT_DONE hands the transmitter to the oldest forwarded frame, else to the head of the outbound queue where it fits
the forward buffer's free room, else to the head of the management queue under the same condition, else it is idle; an
own frame that leaves the outbound queue clears the overrun mark (R173, R174). The bytes of frames not yet whole are told
by the command (log 10), an idle transmitter ends nothing (log 12), and that the management head may go while an outbound
head does not fit is the model's choice (log 39). -/
def Obligations.TransmitDoneHandsOnInOrder : Prop :=
  (∀ (n : Nat) (s : State), s.rif.tx = .idle → exec (.transmitDone n) s = .next s) ∧
    ∀ (n : Nat) (s : State) (src : TxSource) (sent : List Byte), s.rif.tx = .sending src sent →
      let held := if s.rif.linkUp then n else 0
      let fits : List Byte → Prop := fun payload => 16 + payload.length ≤ 1024 - held
      let idle : Rif := { s.rif with tx := .idle, partialBytes := held }
      (∀ f rest, s.rif.forward = f :: rest → exec (.transmitDone n) s =
        .next { s with rif := { idle with forward := rest, tx := .sending .forward (opening ++ f) } }) ∧
      (∀ f rest, s.rif.forward = [] → s.rif.outbound = f :: rest → fits f.payload → exec (.transmitDone n) s =
        .next { s with rif := { idle with
          outbound := rest, overrun := false, tx := .sending .outbound (f.wire s.rif.own) } }) ∧
      (∀ f rest, s.rif.forward = [] → (∀ g ∈ s.rif.outbound.head?, ¬fits g.payload) → s.rif.management = f :: rest →
        fits f.payload → exec (.transmitDone n) s =
        .next { s with rif := { idle with management := rest, tx := .sending .management (f.wire s.rif.own) } }) ∧
      (s.rif.forward = [] → (∀ g ∈ s.rif.outbound.head?, ¬fits g.payload) →
        (∀ g ∈ s.rif.management.head?, ¬fits g.payload) → exec (.transmitDone n) s = .next { s with rif := idle })

/-! ### Requests in general -/

/-- A request whose response finds too few free, unreserved places is dropped unexecuted: MGMT_DROPPED is counted and nothing
else changes (R176 step 2). A payload that names no request or has a wrong length is answered BAD_VALUE with its code and
tag as received, 0 where the payload does not have them, and nothing else changes (R176 step 1; log 31 for a payload of
one byte). Results cut into parts: joined they are the results, every part but the last holds 235 bytes, none holds more,
and there are as many as R178 counts. While the transmitter is busy the parts of a response join the tail of the management
queue in order, numbered from 1, the last one marked, and nothing else of RIF changes but that the whole frame is no longer
in receipt (R175, R176, R178). -/
def Obligations.RequestsAreDroppedOrAnsweredInParts : Prop :=
  (∀ (i : Instr) (src : Byte) (s : State), requestSource i = some src →
    ((encodeRequest i).isSome ∨ ∃ payload, i = .requestUndecoded src payload ∧ decodeRequest src payload = none) →
    s.Settled → s.rif.linkUp = true → src ≠ s.rif.own → s.rif.freePlaces < responseParts s i →
    exec i s = .next { s.heard with sup := { s.sup with
      counters := s.sup.counters.set ctrMgmtDropped (saturate (s.sup.counters.get ctrMgmtDropped)) } }) ∧
  (∀ (src : Byte) (payload : List Byte) (s : State), s.Takes src 1 → decodeRequest src payload = none →
    exec (.requestUndecoded src payload) s =
      .next (s.answered src (payload.getD 0 0) (payload.getD 1 0) ⟨.badValue, [[]]⟩)) ∧
  (∀ (n : Nat) (results : List Byte), results.length ≤ 235 * (n + 1) →
    (cutParts n results).flatten = results ∧ (cutParts n results).length = partCount results.length ∧
      (∀ p ∈ (cutParts n results).dropLast, p.length = 235) ∧ ∀ p ∈ cutParts n results, p.length ≤ 235) ∧
  (∀ (r : Rif) (dst code tag : Byte) (reply : Reply) (src : TxSource) (sent : List Byte), r.tx = .sending src sent →
    r.answer dst code tag reply =
      { r with
        partialBytes := 0
        management := r.management ++ reply.parts.mapIdx fun k results =>
          .response ⟨dst, code, tag, reply.status, k + 1, k + 1 == reply.parts.length, results⟩ })

/-- A frame joins the tail of the outbound queue while it has a place, and is sent at once where nothing waits and the
transmitter is idle; against a full queue it is lost: the first loss marks the overrun and raises OUTBOUND_OVERRUN with
effect SAFE and the kind of the lost frame, a later one changes nothing (R173, R174). -/
def Obligations.OutboundFrameJoinsOrIsLost : Prop :=
  ∀ (f : OutFrame) (s : State),
    (s.rif.outbound.length < 64 → s.rif.tx ≠ .idle →
      s.placeOutbound f = { s with rif := { s.rif with outbound := s.rif.outbound ++ [f] } }) ∧
    (s.rif.tx = .idle → s.rif.forward = [] → s.rif.outbound = [] → 16 + f.payload.length + s.rif.partialBytes ≤ 1024 →
      s.placeOutbound f =
        { s with rif := { s.rif with overrun := false, tx := .sending .outbound (f.wire s.rif.own) } }) ∧
    (64 ≤ s.rif.outbound.length → s.rif.overrun = true → s.placeOutbound f = s) ∧
    (64 ≤ s.rif.outbound.length → s.rif.overrun = false → s.rif.tx ≠ .idle →
        (s.placeOutbound f).rif.overrun = true ∧ (s.placeOutbound f).rif.outbound = s.rif.outbound ∧
        (s.placeOutbound f).sup.deferred = s.sup.deferred ++ [.halt (.fault (s.placeOutbound f).sup.lastSequence)] ∧
        (s.sup.lastSequence < 4294967295 → s.sup.log.length < 16 →
          (s.placeOutbound f).sup.log = s.sup.log ++
            [⟨s.sup.lastSequence + 1, .outboundOverrun, .safe, s.sup.line, s.pitch, .number f.kind.toNat⟩]))

/-! ### The position unit -/

/-- A sample of the drive node that arrives while the position is UNKNOWN establishes it, in any line state: raw and held
position at count mod 4,096, the last count and time, an empty history, S, V and run count 0, KNOWN, the timer loaded; no
advance is announced, so no other block changes; the frame is forwarded (R3). -/
def Obligations.FirstSampleEstablishesThePosition : Prop :=
  ∀ (src : Byte) (count time : Half) (s : State), s.rif.linkUp = true → src ≠ s.rif.own → s.rif.own ≠ broadcast →
    src.toNat = s.settings.driveNode → s.pos.state = .unknown →
    let body := angleBody src count time
    exec (.angle src count time (frameCheck body)) s =
      .next { s with
        pos := { state := .known, raw := count.toNat % 4096, held := count.toNat % 4096, lastCount := count.toNat,
                 lastTime := time.toNat, history := [], s := 0, v := 0, overRun := 0,
                 timer := some s.settings.motionTimeout }
        rif := s.heard.rif.forwardFrame (body ++ halfBytes (frameCheck body)) }

/-- What a sample of the drive node does to POS while the position is KNOWN, whatever the advance then does: the signed
16-bit count step, the raw position, the held position by line state and motion limits, the history, S and V, the overspeed
run count (held at a debounce that was lowered below it), the timer, and OVERSPEED with V as its detail, raised where the
run count comes to the debounce from another value and with its stop taken by the end of the command
(R4, R5, R6, R8, R10, R11, R12). -/
def Obligations.SampleMovesThePositionByTheRules : Prop :=
  ∀ (src : Byte) (count time : Half) (s : State), s.rif.linkUp = true → src ≠ s.rif.own → s.rif.own ≠ broadcast →
    src.toNat = s.settings.driveNode → s.pos.state = .known →
    let step := countStep s.pos.lastCount count.toNat
    let gap := (time.toNat + 65536 - s.pos.lastTime % 65536) % 65536
    let tooFast := fun t : State => s.settings.overspeed < t.pos.v
    step ≤ 32767 ∧ -32768 ≤ step ∧ (step - ((count.toNat : Int) - s.pos.lastCount)) % 65536 = 0 ∧
    ∃ t, exec (.angle src count time (frameCheck (angleBody src count time))) s = .next t ∧
      t.pos.state = .known ∧ t.pos.lastCount = count.toNat ∧ t.pos.lastTime = time.toNat ∧
      t.pos.timer = some s.settings.motionTimeout ∧
      ((s.pos.raw : Int) + step < 0 → t.pos.raw = 0) ∧
      (0 ≤ (s.pos.raw : Int) + step → (s.pos.raw : Int) + step < 2 ^ 44 → (t.pos.raw : Int) = s.pos.raw + step) ∧
      (s.running = false → t.pos.held = t.pos.raw) ∧
      (s.running = true → (1024 < step ∨ t.pos.raw + 64 < s.pos.held) →
        t.pos.held = t.pos.raw ∧ t.pos.history = [] ∧ t.pos.s = 0 ∧ t.pos.v = 0) ∧
      (s.running = true → ¬(1024 < step ∨ t.pos.raw + 64 < s.pos.held) → t.pos.held = max s.pos.held t.pos.raw) ∧
      (¬(s.running = true ∧ (1024 < step ∨ t.pos.raw + 64 < s.pos.held)) →
        (gap = 0 → t.pos.history = s.pos.history) ∧
        (0 < gap → gap ≤ 50000 → t.pos.history = s.pos.history.drop (s.pos.history.length - 7) ++ [⟨step, gap⟩]) ∧
        (50000 < gap → t.pos.history = [])) ∧
      t.pos.s = (if t.pos.history = [] then 0 else
        min 131071 ((t.pos.history.map Interval.counts).sum.toNat * 1000000 / (t.pos.history.map Interval.time).sum)) ∧
      t.pos.v = t.pos.s * 60 / 4096 ∧
      (¬tooFast t → t.pos.overRun = 0) ∧
      (tooFast t → t.pos.overRun = min s.settings.debounce (s.pos.overRun + 1)) ∧
      (tooFast t → s.pos.overRun ≠ s.settings.debounce → s.settings.debounce ≤ s.pos.overRun + 1 → s.Settled →
        t.sup.line ≠ .run ∧ (s.sup.lastSequence < 4294967295 → s.sup.log.length < 16 → ∃ more,
          t.sup.log = s.sup.log ++ ⟨s.sup.lastSequence + 1, .overspeed, .stop, s.sup.line, t.pos.held / 4096,
            .number t.pos.v⟩ :: more))

/-- A sample of the drive node without a motion fault, while the position is KNOWN: after stages 1 to 5, with OVERSPEED
raised where its run count reaches the debounce, a held position that has moved forward is announced and every block works
once, CAM before TRQ (R65), SUP taking the effects POS reported at a turn of its own (log 3); any other order is left open
(log 2). Without a move no block works (R2, R7, R12, R159). What a turn does: LOT in RUN takes the cut decision of the point
reached (R135); REG in RUN and RUNOUT decides the marks whose window end plus 128 is reached (R40, R52); CHK opens the
pulses whose open-acceptance position lies at or below the held position, whether this advance reached it or an earlier one,
which is the model's reading (R98; log 18), and, but in SAFE, passes and closes the checks whose window end plus 128 is reached,
inputs ascending (R98, R103, R107, R108); CAM applies the steps of R78 to the GATE channel, then to the others ascending,
each until neither applies (R78). TRQ's turn is stated at the retirement. -/
def Obligations.AdvanceReachesTheBlocks : Prop :=
  (∀ (src : Byte) (count time : Half) (s : State), s.rif.linkUp = true → src ≠ s.rif.own → s.rif.own ≠ broadcast →
    src.toNat = s.settings.driveNode → s.pos.state = .known → s.Settled →
    let body := angleBody src count time
    let step := countStep s.pos.lastCount count.toNat
    ∃ t : State, exec (.angle src count time (frameCheck body)) s =
        .next { t with rif := t.rif.forwardFrame (body ++ halfBytes (frameCheck body)) } ∧
      (¬(s.running = true ∧ (1024 < step ∨ t.pos.raw + 64 < s.pos.held)) →
        let base := { s.heard with pos := t.pos }
        let fast := s.settings.overspeed < t.pos.v ∧ s.pos.overRun ≠ s.settings.debounce ∧
          s.settings.debounce ≤ s.pos.overRun + 1
        ∃ m, (fast → m = base.raise .overspeed .stop (.number t.pos.v)) ∧ (¬fast → m = base) ∧
          (t.pos.held ≤ s.pos.held → t = m.settle) ∧
          (s.pos.held < t.pos.held → ∃ order : List Turn,
            order.Perm [.cam, .chk, .reg, .lot, .trq, .sup] ∧
            (∃ before between after, order = before ++ .cam :: between ++ .trq :: after) ∧
            t = order.foldl (fun x turn => match turn with
                | .cam => x.camAdvance.settle
                | .chk => (x.chkAdvance s.pos.held t.pos.held).settle
                | .reg => (x.regAdvance s.pos.held t.pos.held).settle
                | .lot => (x.lotAdvance s.pos.held t.pos.held).settle
                | .trq => (x.trqAdvance s.pos.held t.pos.held).settle
                | .sup => { x with sup := { x.sup with deferred := m.sup.deferred } }.settle)
              { m with free := m.free + 1, sup := { m.sup with deferred := [] } }))) ∧
  ∀ (previous new : Nat) (s : State),
    (s.sup.line ≠ .run → s.lotAdvance previous new = s) ∧
    (s.sup.line = .run → cutPitch previous new = none → s.lotAdvance previous new = s) ∧
    (∀ p, s.sup.line = .run → cutPitch previous new = some p → s.lotAdvance previous new = s.cutDecision p) ∧
    (s.running = false → s.regAdvance previous new = s) ∧
    (s.running = true → s.regAdvance previous new =
      (s.reg.marks.filter fun m => decide ((previous : Int) < m.stop + 128 ∧ m.stop + 128 ≤ (new : Int))).foldl
        State.decideMark s) ∧
    (∃ opened, opened = (List.finRange 16).foldl State.acceptOpen s ∧ opened.sup.line = s.sup.line ∧
      (s.sup.line = .safe → s.chkAdvance previous new = opened) ∧
      (s.sup.line ≠ .safe →
        s.chkAdvance previous new = (List.finRange 16).foldl (State.closeInput previous new) opened)) ∧
    (∀ i : Fin 16,
      (∀ lead, (s.chkInput i).pulse = .pending lead → lead + (s.input i).glitchMin ≤ s.pos.held →
        s.acceptOpen i = { s with chk := s.chk.set i { s.chk.get i with pulse := .open lead } }.routePulse i lead none) ∧
      ((∀ lead, (s.chkInput i).pulse = .pending lead → (s.pos.held : Int) < lead + (s.input i).glitchMin) →
        s.acceptOpen i = s) ∧
      let passes := fun a : Alternative => decide ((previous : Int) < a.stop + 128 ∧ a.stop + 128 ≤ (new : Int))
      let marked := fun a : Alternative => { a with passed := a.passed || passes a }
      s.closeInput previous new i =
        ((s.chkInput i).pending.filterMap fun p => match p.resolved, p.alternatives with
            | true, [a] => if passes a then some (p.serial, marked a) else none
            | _, _ => none).foldl (fun x due => x.closeCheck i due.1 due.2)
          { s with chk := s.chk.set i { s.chk.get i with
            pending := (s.chkInput i).pending.map fun p => { p with alternatives := p.alternatives.map marked } } }) ∧
    s.camAdvance =
      (((List.finRange 24).filter fun c => (s.channel c).function == .gate) ++
        (List.finRange 24).filter fun c => (s.channel c).function != .gate).foldl State.testChannel s ∧
    ∀ c : Fin 24, (s.testChannel c).camStep c = none ∧ (s.camStep c = none → s.testChannel c = s) ∧
      ∀ u, s.camStep c = some u → s.testChannel c = u.testChannel c

/-- While the line stays RUN or RUNOUT and the position KNOWN, no command lowers the held position (R6, R7). A sample of more
than 1,024 counts forward in RUN or RUNOUT raises POSITION_JUMP, and one that falls more than 64 counts below the held
position raises REVERSE, each with its detail and the pitch before the sample; the line is SAFE at the end of the command,
with the fault as its reason (R6, R150, R159). -/
def Obligations.RunMotionIsHeldOrHalted : Prop :=
  (∀ (i : Instr) (s t : State), s.running = true → s.pos.state = .known → s.Settled → exec i s = .next t →
    t.running = true → s.pos.held ≤ t.pos.held) ∧
  (∀ (src : Byte) (count time : Half) (s : State), s.rif.linkUp = true → src ≠ s.rif.own → s.rif.own ≠ broadcast →
    src.toNat = s.settings.driveNode → s.pos.state = .known → s.running = true → s.Settled →
    s.sup.lastSequence < 4294967295 → s.sup.log.length < 16 →
    let step := countStep s.pos.lastCount count.toNat
    ∃ t, exec (.angle src count time (frameCheck (angleBody src count time))) s = .next t ∧
      (1024 < step ∨ t.pos.raw + 64 < s.pos.held →
        t.sup.line = .safe ∧ t.sup.reason = .fault (s.sup.lastSequence + 1) ∧ t.trq = s.trq ∧ t.lot = s.lot) ∧
      (1024 < step → t.sup.log = s.sup.log ++
        [⟨s.sup.lastSequence + 1, .positionJump, .safe, s.sup.line, s.pitch, .number step⟩]) ∧
      (step ≤ 1024 → t.pos.raw + 64 < s.pos.held → t.sup.log = s.sup.log ++
        [⟨s.sup.lastSequence + 1, .reverse, .safe, s.sup.line, s.pitch, .number ((s.pos.held : Int) - t.pos.raw)⟩]))

/-- The expiry of a running motion timer raises MOTION_LOST with the timeout it was loaded with as detail (log 15), SAFE in
RUN and RUNOUT and NONE otherwise; the position becomes UNKNOWN, speed, run count, timer and pulses are cleared, the positions and the pending
checks are kept; in RUN and RUNOUT the line is SAFE at the end (R1, R8, R9, R109). A stopped
timer does not run out (log 12). -/
def Obligations.MotionTimerExpiryLosesThePosition : Prop :=
  (∀ s : State, s.pos.timer = none → exec .motionTimerExpiry s = .next s) ∧
    ∀ (loaded : Nat) (s : State), s.pos.timer = some loaded → s.Settled → ∃ t, exec .motionTimerExpiry s = .next t ∧
      t.pos = ⟨.unknown, s.pos.raw, s.pos.held, s.pos.lastCount, s.pos.lastTime, [], 0, 0, 0, none⟩ ∧
      (∀ i, (t.chkInput i).pulse = .none ∧ (t.chkInput i).lastClosed = none ∧
        (t.chkInput i).pending = (s.chkInput i).pending ∧ (t.chkInput i).consecutive = (s.chkInput i).consecutive) ∧
      t.store = s.store ∧ t.trq = s.trq ∧ t.lot = s.lot ∧
      (s.running = false → t.sup.line = s.sup.line ∧ t.sup.reason = s.sup.reason ∧ t.cam = s.cam) ∧
      (s.running = true → t.sup.line = .safe ∧ t.sup.reason = .fault t.sup.lastSequence) ∧
      (s.sup.lastSequence < 4294967295 → s.sup.log.length < 16 →
        t.sup.log = s.sup.log ++ [⟨s.sup.lastSequence + 1, .motionLost, if s.running then .safe else .none, s.sup.line,
          s.pitch, .number loaded⟩])

/-! ### Edge reports and pulses -/

/-- An ANGLE frame of a source other than the drive node is counted and forwarded, and nothing else changes (R2, R171).
A report that no channel takes, that finds no position, or that lies too far ahead or behind is dropped and counted,
the frame is forwarded, and nothing else changes (R94, R95, R171). -/
def Obligations.ForeignAndUnplacedFramesAreOnlyCounted : Prop :=
  (∀ (src : Byte) (count time : Half) (s : State), s.rif.linkUp = true → src ≠ s.rif.own → s.rif.own ≠ broadcast →
    src.toNat ≠ s.settings.driveNode →
    let body := angleBody src count time
    exec (.angle src count time (frameCheck body)) s =
      .next { s with
        sup := { s.sup with
          counters := s.sup.counters.set ctrAngleForeign (saturate (s.sup.counters.get ctrAngleForeign)) }
        rif := s.heard.rif.forwardFrame (body ++ halfBytes (frameCheck body)) }) ∧
  ∀ (src point level : Byte) (count : Half) (s : State), s.rif.linkUp = true → src ≠ s.rif.own → s.rif.own ≠ broadcast →
    point.toNat ≤ 15 →
    let body := edgeBody src point level count
    let d := countStep s.pos.lastCount count.toNat
    let found := s.mapEdge (BitVec.ofNat 12 (src.toNat * 16 + point.toNat))
    let counted : Fin 38 → State := fun c =>
      { s with
        sup := { s.sup with counters := s.sup.counters.set c (saturate (s.sup.counters.get c)) }
        rif := s.heard.rif.forwardFrame (body ++ halfBytes (frameCheck body)) }
    (found = none → exec (.edge src point level count (frameCheck body)) s = .next (counted ctrEdgesUnmapped)) ∧
    (found ≠ none → s.pos.state = .unknown →
      exec (.edge src point level count (frameCheck body)) s = .next (counted ctrEdgesStray)) ∧
    (found ≠ none → s.pos.state = .known → 512 < d →
      exec (.edge src point level count (frameCheck body)) s = .next (counted ctrEdgesStray)) ∧
    (found ≠ none → s.pos.state = .known → d ≤ 512 → d < -4096 ∨ (s.pos.raw : Int) + d < 0 →
      exec (.edge src point level count (frameCheck body)) s = .next (counted ctrEdgesLate))

/-- What a placed report does (R96, R97, R98): a leading edge starts or replaces a pending pulse and, where the held
position is already at its glitch minimum, opens it and hands it on with the word open; a trailing edge ends the pulse and
hands a pending one that is long enough on with its width; GLITCHES is counted for a pulse replaced or too short. Which open
mark pulse still awaits its width is the model's own field (log 17). Handed on, a pulse goes to REG, to LOT or to the
input's checks by the function of its input (R99); a CHECK pulse sets the seen flag of every alternative it lies in that has
not passed, else counts EDGES_LATE once where it lies in one that has or in the last closed window, and in SAFE is passed
over (R102, R108). -/
def Obligations.PlacedReportMovesThePulse : Prop :=
  (∀ (src point level : Byte) (count : Half) (s : State) (i : Fin 16), s.rif.linkUp = true → src ≠ s.rif.own →
    s.rif.own ≠ broadcast → point.toNat ≤ 15 → level.toNat ≤ 1 →
    s.mapEdge (BitVec.ofNat 12 (src.toNat * 16 + point.toNat)) = some i → s.pos.state = .known →
    let d := countStep s.pos.lastCount count.toNat
    let position : Int := s.pos.raw + d
    d ≤ 512 → -4096 ≤ d → 0 ≤ position →
    let leading := level.toNat = if (s.input i).activeLevel = .high then 1 else 0
    let glitch := (s.input i).glitchMin
    let glitched : State → State := fun x => { x with sup := { x.sup with
      counters := x.sup.counters.set ctrGlitches (saturate (x.sup.counters.get ctrGlitches)) } }
    let pulsed : Pulse → State → State := fun p x => { x with chk := x.chk.set i { x.chk.get i with pulse := p } }
    let begun : State := match (s.chkInput i).pulse with
      | .none => s.heard
      | .pending _ => glitched s.heard
      | .open lead => glitched { s.heard with reg := { s.reg with openCandidate :=
          if (s.input i).function = .mark ∧ s.reg.openCandidate = some lead then none else s.reg.openCandidate } }
    ∃ t : State, exec (.edge src point level count (frameCheck (edgeBody src point level count))) s =
        .next { t with rif := t.rif.forwardFrame (edgeBody src point level count ++
          halfBytes (frameCheck (edgeBody src point level count))) } ∧
      (leading → (s.pos.held : Int) < position + glitch → t = pulsed (.pending position) begun) ∧
      (leading → position + glitch ≤ s.pos.held → t = (pulsed (.open position) begun).routePulse i position none) ∧
      (¬leading → (s.chkInput i).pulse = .none → t = s.heard) ∧
      (∀ lead, ¬leading → (s.chkInput i).pulse = .pending lead →
        (position - lead < 1 ∨ position - lead < glitch → t = glitched (pulsed .none s.heard)) ∧
        (¬(position - lead < 1 ∨ position - lead < glitch) →
          t = (pulsed .none s.heard).routePulse i lead (some (position - lead)))) ∧
      ∀ lead, ¬leading → (s.chkInput i).pulse = .open lead →
        ((s.input i).function = .mark → t = (pulsed .none s.heard).markWidth lead (position - lead)) ∧
        ((s.input i).function ≠ .mark → t = pulsed .none s.heard)) ∧
  ∀ (i : Fin 16) (lead : Int) (width : Option Int) (s : State),
    ((s.input i).function = .mark → s.routePulse i lead width = s.markPulse lead width) ∧
    ((s.input i).function = .splice → s.routePulse i lead width = s.splicePulse) ∧
    ((s.input i).function = .boxTaken → s.routePulse i lead width = s.boxTaken) ∧
    ((s.input i).function = .check →
      let t := s.routePulse i lead width
      let lies := fun a : Alternative => a.start ≤ lead ∧ lead ≤ a.stop
      let takes := ∃ p ∈ (s.chkInput i).pending, ∃ a ∈ p.alternatives, lies a ∧ a.passed = false
      let late := (∃ p ∈ (s.chkInput i).pending, ∃ a ∈ p.alternatives, lies a ∧ a.passed = true) ∨
        ∃ w, (s.chkInput i).lastClosed = some w ∧ w.1 ≤ lead ∧ lead ≤ w.2
      (s.sup.line = .safe → t = s) ∧
      (s.sup.line ≠ .safe → takes → t = { s with chk := t.chk } ∧ (∀ j, j ≠ i → t.chkInput j = s.chkInput j) ∧
        t.chkInput i = { s.chkInput i with pending := (s.chkInput i).pending.map fun p => { p with
          alternatives := p.alternatives.map fun a =>
            if a.start ≤ lead ∧ lead ≤ a.stop ∧ a.passed = false then { a with seen := true } else a } }) ∧
      (s.sup.line ≠ .safe → ¬takes → late → t = { s with sup := { s.sup with
        counters := s.sup.counters.set ctrEdgesLate (saturate (s.sup.counters.get ctrEdgesLate)) } }) ∧
      (s.sup.line ≠ .safe → ¬takes → ¬late → t = s))

/-- A new record's mark and splice span, a mark pulse and its width, and the mark decision. Creation: a pending mark with the
window from nominal less half to nominal plus half; while the splice span is above 0 it is counted down and the record is
poisoned with SPLICE (R38, R50). A pulse belongs to the first record in the queue whose mark window holds its leading edge:
a candidate, MARKS_EXTRA where there is one, EDGES_LATE where the mark has been decided; passed over in no window and in SAFE
(R39, R52). A width that comes later goes to the candidate that is open; which open pulse awaits one is the model's own
field (log 17). Classification (R40), and the decision: the mark leaves the list, the lock takes the error, then the record
its variant and error if it has not been settled (R62), then its defects at the lock state after the lock, with
REG_WARNINGS, and CAM and CHK are told in an order left open (R40, R41, R73, R101; log 4). A pending mark whose record is not
in the queue, which no run reaches, only leaves the list: the model's choice (log 30). -/
def Obligations.MarksAreKeptAndDecided : Prop :=
  let counted : Fin 38 → State → State := fun c x => { x with sup := { x.sup with
    counters := x.sup.counters.set c (saturate (x.sup.counters.get c)) } }
  let inside : State → Int → Record → Prop := fun s lead r =>
    let centre : Int := r.birth * 4096 + (s.format r.format).nominal
    centre - (s.format r.format).half ≤ lead ∧ lead ≤ centre + (s.format r.format).half
  (∀ (serial pitch : Nat) (key : LotKey) (f : Fin 16) (before : List Record) (s : State),
    let r := Record.born serial pitch key f
    s.trq.queue = before ++ [r] → (∀ x ∈ before, x.serial ≠ serial) →
    let centre : Int := pitch * 4096 + (s.format f).nominal
    let marks := s.reg.marks ++ [⟨serial, pitch, centre - (s.format f).half, centre + (s.format f).half, none⟩]
    (s.reg.span = 0 → s.regCreate r = { s with reg := { s.reg with marks := marks } }) ∧
    (0 < s.reg.span → s.regCreate r = counted (ctrReason .splice) { s with
      reg := { s.reg with marks := marks, span := s.reg.span - 1 }
      trq := { s.trq with
        queue := before ++ [{ r with poisoned := true, defects := { r.defects with splice := true } }] } })) ∧
  (∀ (lead : Int) (width : Option Int) (s : State),
    (s.sup.line = .safe → s.markPulse lead width = s) ∧
    (s.sup.line ≠ .safe → (∀ r ∈ s.trq.queue, ¬inside s lead r) → s.markPulse lead width = s) ∧
    ∀ before r after, s.sup.line ≠ .safe → s.trq.queue = before ++ r :: after → (∀ x ∈ before, ¬inside s lead x) →
      inside s lead r →
      ((∀ m ∈ s.reg.marks, m.serial ≠ r.serial) → s.markPulse lead width = counted ctrEdgesLate s) ∧
      ∀ front m back, s.reg.marks = front ++ m :: back → m.serial = r.serial →
        (∀ x ∈ front ++ back, x.serial ≠ r.serial) →
        (m.candidate.isSome = true → s.markPulse lead width = counted ctrMarksExtra s) ∧
        (m.candidate = none → s.markPulse lead width = { s with reg := { s.reg with
          marks := front ++ { m with candidate := some ⟨lead, width⟩ } :: back
          openCandidate := if width = none then some lead else s.reg.openCandidate } })) ∧
  (∀ (lead width : Int) (s : State),
    let ended := { s with reg := { s.reg with openCandidate := none } }
    (s.reg.openCandidate ≠ some lead → s.markWidth lead width = s) ∧
    (s.reg.openCandidate = some lead → s.sup.line = .safe → s.markWidth lead width = ended) ∧
    (s.reg.openCandidate = some lead → s.sup.line ≠ .safe →
      ((∀ m ∈ s.reg.marks, m.candidate ≠ some ⟨lead, none⟩) → s.markWidth lead width = counted ctrEdgesLate ended) ∧
      ∀ front m back, s.reg.marks = front ++ m :: back → m.candidate = some ⟨lead, none⟩ →
        (∀ x ∈ front ++ back, x.candidate ≠ some ⟨lead, none⟩) →
        s.markWidth lead width = { s with reg := { s.reg with
          openCandidate := none, marks := front ++ { m with candidate := some ⟨lead, some width⟩ } :: back } })) ∧
  (∀ (f : Format) (birth : Nat),
    let holds := fun (w : Int) (v : Fin 4) => ∃ c, f.classes.get v = some c ∧ (c.min : Int) ≤ w ∧ w ≤ c.max
    classify f birth none = .missing ∧ (∀ lead, classify f birth (some ⟨lead, none⟩) = .unreadable) ∧
    ∀ lead w, ((∀ v, ¬holds w v) → classify f birth (some ⟨lead, some w⟩) = .unreadable) ∧
      ∀ v, holds w v → (∀ u < v, ¬holds w u) →
        classify f birth (some ⟨lead, some w⟩) = .read v (lead - ((birth : Int) * 4096 + f.nominal))) ∧
  ∀ (m : PendingMark) (s : State),
    let taken := { s with reg := { s.reg with marks := s.reg.marks.filter fun x => x.serial != m.serial } }
    ((∀ r ∈ s.trq.queue, r.serial ≠ m.serial) → s.decideMark m = taken) ∧
    ∀ before r after, s.trq.queue = before ++ r :: after → (∀ x ∈ before ++ after, x.serial ≠ r.serial) →
      r.serial = m.serial → r.variant = none → r.error = none →
      let f := s.format r.format
      let outcome := classify f m.birth m.candidate
      let read : Option (Fin 4 × Int) := match outcome with | .read v e => some (v, e) | .missing => none | .unreadable => none
      let locked := taken.lockMark (read.map Prod.snd)
      let written := { locked with trq := { locked.trq with queue := before ++
        (if r.final = none then { r with variant := read.map Prod.fst, error := read.map Prod.snd } else r) :: after } }
      let unlocked := fun x : State => if locked.reg.lock ≠ .locked ∧ f.acceptUnlocked = false then
        x.addDefect m.serial .regUnlocked else x
      let judged := match outcome with
        | .missing => written.addDefect m.serial .markMissing
        | .unreadable => written.addDefect m.serial .markUnreadable
        | .read _ e =>
          let warned := if f.warn < e.natAbs then counted ctrRegWarnings written else written
          unlocked (if f.reject < e.natAbs then warned.addDefect m.serial .regError else warned)
      ∃ r' ∈ judged.trq.queue, r'.serial = m.serial ∧
        let told := { judged with free := judged.free + 1 }
        (s.decideMark m = (told.camResolve r').chkResolve r' ∨ s.decideMark m = (told.chkResolve r').camResolve r')

/-! ### Channels, inputs, map and settings -/

/-- A channel record passes the range test of CHANNEL_SET exactly when its fields lie in the ranges of R17 and agree with
its function; it then holds the fields sent, the four codes read by the table of 12.6 (R17, R21 test 3, R178). -/
def Obligations.ChannelFieldsAreTestedByTheirRanges : Prop :=
  ∀ (a : ChannelArgs) (x : Channel), channelRecord a = some x ↔
    (x.node = a.node.toNat ∧ x.point = a.point.toNat ∧
      a.function.toNat = (match x.function with
        | .knife => 0 | .fold => 1 | .gum => 2 | .patch => 3 | .gate => 4 | .finger => 5 | .general => 6) ∧
      x.offset = a.offset.toNat ∧ x.delay = a.delay.toNat ∧ x.dwellMin = a.dwellMin.toNat ∧
      x.mergeGap = a.mergeGap.toNat ∧ x.holdMax = a.holdMax.toNat ∧
      a.policy.toNat = (match x.policy with | .fireAlways => 0 | .skipReject => 1) ∧
      a.safeState.toNat = (match x.safeState with | .off => 0 | .on => 1 | .hold => 2) ∧
      a.source.toNat = (match x.source with | .disabled => 0 | .cam => 1 | .manual => 2)) ∧
    1 ≤ x.node ∧ x.node ≤ 61 ∧ x.point ≤ 15 ∧ x.offset ≤ 30 ∧ x.delay ≤ 20000 ∧ x.dwellMin ≤ 50000 ∧
      x.mergeGap ≤ 1023 ∧ (x.function = .gate → 1 ≤ x.holdMax ∧ x.holdMax ≤ 16) ∧
      (x.function ≠ .gate → x.holdMax = 0) ∧ (x.function = .knife → x.offset = 0) ∧
      (x.function = .knife ∨ x.function = .fold ∨ x.function = .gate ∨ x.function = .finger → x.policy = .fireAlways)

/-- CHANNEL_SET by the five tests of R21 in their order: refused without effect, or stored, with the VALID formats that
name the channel made INVALID and listed. A format names a channel that is in its required set, or that a window entry or
the pairing of a check entry of any of its programs names (R24); in use is stated at FORMAT_OPEN (R25). -/
def Obligations.ChannelSetByTheTests : Prop :=
  (∀ (f : Format) (c : Fin 24), f.namesChannel c = true ↔ f.required.getLsbD c.val = true ∨
    ∃ v, (∃ w ∈ (f.program v).windows, w.channel = c) ∨ ∃ k ∈ (f.program v).checks, k.paired = some c) ∧
  ∀ (src tag : Byte) (a : ChannelArgs) (s : State), s.Takes src 1 →
    let answer := fun (t : State) (r : Reply) => Host.Outcome.next (φ := Fault) (ρ := Refusal) (t.answered src 1 tag r)
    let run := exec (.channelSet src tag a) s
    (s.sup.line ≠ .idle → run = answer s (.plain .badState)) ∧
    (s.sup.line = .idle → 24 ≤ a.channel.toNat → run = answer s (.plain .unknownId)) ∧
    ∀ c : Fin 24, s.sup.line = .idle → a.channel.toNat = c.val →
      (channelRecord a = none → run = answer s (.plain .badValue)) ∧
      ∀ new, channelRecord a = some new →
        let taken := new.function ∈ [ActFunction.knife, .gate, .finger] ∧
          ∃ d, d ≠ c ∧ (s.channel d).function = new.function
        let used := ∃ f, (s.format f).namesChannel c = true ∧ s.inUse f = true
        (taken → run = answer s (.plain .badValue)) ∧
        (¬taken → new = s.channel c → run = answer s (.one .accepted [0])) ∧
        (¬taken → new ≠ s.channel c → used → run = answer s (.plain .inUse)) ∧
        (¬taken → new ≠ s.channel c → ¬used → ∃ t ids,
          run = answer t (.one .accepted (BitVec.ofNat 8 ids.length :: ids.map fun f : Fin 16 => BitVec.ofNat 8 (f.val + 1))) ∧
          ids = (List.finRange 16).filter (fun f => (s.format f).state == .valid && (s.format f).namesChannel c) ∧
          t.channel c = new ∧ (∀ d, d ≠ c → t.channel d = s.channel d) ∧
          (∀ f, t.format f = if f ∈ ids then { s.format f with state := .invalid } else s.format f) ∧
          t = { s with store := { s.store with channels := t.store.channels, formats := t.store.formats } })

/-- An input record passes the range test of INPUT_SET exactly when its codes are those of R178 and its offset and limit lie
in the ranges its function has by R18, and it then holds the fields sent. INPUT_SET by the five tests of R21 in their
order; an accepted change stores the record, makes the VALID formats that name the input INVALID and clears the input's
pulse, last closed window and consecutive count (R18, R21, R110). That a
record identical to the stored one leaves CHK as it is, too, is the model's reading (log 16). A format names an input that
a check entry of any of its programs names, and in state VALID or INVALID the MARK input (R24); in use is stated at
FORMAT_OPEN (R25). -/
def Obligations.InputSetByTheTests : Prop :=
  (∀ (a : InputArgs) (x : Input), inputRecord a = some x ↔
    a.function.toNat = (match x.function with | .unused => 0 | .mark => 1 | .check => 2 | .splice => 3 | .boxTaken => 4) ∧
      a.activeLevel.toNat = (match x.activeLevel with | .low => 0 | .high => 1) ∧
      x.offset = a.offset.toNat ∧ x.glitchMin = a.glitchMin.toNat ∧ x.limit = a.limit.toNat ∧
      (x.function = .check → x.offset ≤ 30 ∧ x.limit ≤ 15) ∧ (x.function ≠ .check → x.offset = 0 ∧ x.limit = 0)) ∧
  (∀ (f : Format) (inputs : Vector Input 16) (i : Fin 16), f.namesInput inputs i = true ↔
    (∃ v, ∃ k ∈ (f.program v).checks, k.input = i) ∨
      ((f.state = .valid ∨ f.state = .invalid) ∧ (inputs.get i).function = .mark)) ∧
  ∀ (src tag : Byte) (a : InputArgs) (s : State), s.Takes src 1 →
    let answer := fun (t : State) (r : Reply) => Host.Outcome.next (φ := Fault) (ρ := Refusal) (t.answered src 2 tag r)
    let run := exec (.inputSet src tag a) s
    (s.sup.line ≠ .idle → run = answer s (.plain .badState)) ∧
    (s.sup.line = .idle → 16 ≤ a.input.toNat → run = answer s (.plain .unknownId)) ∧
    ∀ i : Fin 16, s.sup.line = .idle → a.input.toNat = i.val →
      (inputRecord a = none → run = answer s (.plain .badValue)) ∧
      ∀ new, inputRecord a = some new →
        let taken := new.function = .mark ∧ ∃ j, j ≠ i ∧ (s.input j).function = .mark
        let used := ∃ f, (s.format f).namesInput s.store.inputs i = true ∧ s.inUse f = true
        (taken → run = answer s (.plain .badValue)) ∧
        (¬taken → new = s.input i → run = answer s (.one .accepted [0])) ∧
        (¬taken → new ≠ s.input i → used → run = answer s (.plain .inUse)) ∧
        (¬taken → new ≠ s.input i → ¬used → ∃ t ids,
          run = answer t (.one .accepted (BitVec.ofNat 8 ids.length :: ids.map fun f : Fin 16 => BitVec.ofNat 8 (f.val + 1))) ∧
          ids = (List.finRange 16).filter
            (fun f => (s.format f).state == .valid && (s.format f).namesInput s.store.inputs i) ∧
          t.input i = new ∧ (∀ j, j ≠ i → t.input j = s.input j) ∧
          (∀ f, t.format f = if f ∈ ids then { s.format f with state := .invalid } else s.format f) ∧
          t.chkInput i = ⟨.none, (s.chkInput i).pending, none, 0⟩ ∧ (∀ j, j ≠ i → t.chkInput j = s.chkInput j) ∧
          t = { s with
            store := { s.store with inputs := t.store.inputs, formats := t.store.formats }
            chk := t.chk, reg := { s.reg with openCandidate := t.reg.openCandidate } })

/-- MAP_SET: refused outside IDLE, for an index above 15, for a base, mask or first channel out of range; else the entry is
stored and no format changes (R19, R22); the codes 0 and 1 of enable, and that
another is refused before these tests, are the model's (log 42, 24).
The channel of a report: the lowest-numbered enabled entry whose base agrees with the key under the mask decides, and the
key's other bits count on from its first channel; the report is unmapped where no enabled entry agrees, where that number is
above 15, and where that channel is UNUSED (R19, R94). -/
def Obligations.MapEntriesAreStoredAndDecide : Prop :=
  (∀ (src tag : Byte) (a : MapArgs) (s : State), s.Takes src 1 →
    let answer := fun (t : State) (r : Reply) => Host.Outcome.next (φ := Fault) (ρ := Refusal) (t.answered src 3 tag r)
    let run := exec (.mapSet src tag a) s
    let inRange := a.base.toNat ≤ 1023 ∧ a.mask.toNat ≤ 1023 ∧ a.first.toNat ≤ 15
    (1 < a.enable.toNat → run = answer s (.plain .badValue)) ∧
    (a.enable.toNat ≤ 1 →
      (s.sup.line ≠ .idle → run = answer s (.plain .badState)) ∧
      (s.sup.line = .idle → 16 ≤ a.index.toNat → run = answer s (.plain .unknownId)) ∧
      (s.sup.line = .idle → a.index.toNat ≤ 15 → ¬inRange → run = answer s (.plain .badValue)) ∧
      ∀ k : Fin 16, s.sup.line = .idle → a.index.toNat = k.val → inRange → ∃ t, run = answer t (.plain .accepted) ∧
        t = { s with store := { s.store with map := t.store.map } } ∧ (∀ j, j ≠ k → t.store.map.get j = s.store.map.get j) ∧
        (t.store.map.get k).enable = (a.enable.toNat == 1) ∧ (t.store.map.get k).base.toNat = a.base.toNat ∧
        (t.store.map.get k).mask.toNat = a.mask.toNat ∧ (t.store.map.get k).first = a.first.toNat)) ∧
  (∀ (s : State) (key : BitVec 12),
    let agrees := fun e : MapEntry => ∀ n : Fin 10, e.mask.getLsbD n = true → key.getLsbD n = e.base.getLsbD n
    let matched := fun k : Fin 16 => (s.store.map.get k).enable = true ∧ agrees (s.store.map.get k)
    ((∀ k, ¬matched k) → s.mapEdge key = none) ∧
    ∀ k, matched k → (∀ j < k, ¬matched j) →
      let number := (s.store.map.get k).first + (key &&& ~~~((s.store.map.get k).mask.setWidth 12)).toNat
      (15 < number → s.mapEdge key = none) ∧
      ∀ i : Fin 16, number = i.val →
        ((s.input i).function = .unused → s.mapEdge key = none) ∧
        ((s.input i).function ≠ .unused → s.mapEdge key = some i))

/-- SETTINGS_SET by the three tests of R23: refused without effect, or all nine settings stored; a changed delivery offset
makes the VALID formats that fail a timing check INVALID and lists them; a changed drive node loses the position and the
pulses, without a fault (R14, R20, R23, R109). -/
def Obligations.SettingsSetByTheTests : Prop :=
  ∀ (src tag : Byte) (a : SettingsArgs) (s : State), s.Takes src 1 →
    let answer := fun (t : State) (r : Reply) => Host.Outcome.next (φ := Fault) (ρ := Refusal) (t.answered src 4 tag r)
    let run := exec (.settingsSet src tag a) s
    let inRange := (1 ≤ a.driveNode.toNat ∧ a.driveNode.toNat ≤ 61) ∧ (1 ≤ a.feedNode.toNat ∧ a.feedNode.toNat ≤ 61) ∧
      a.noticeAddress.toNat ≤ 63 ∧ (2 ≤ a.motionTimeout.toNat ∧ a.motionTimeout.toNat ≤ 50) ∧ a.cutMinimum.toNat ≤ 1800 ∧
      (100 ≤ a.overspeed.toNat ∧ a.overspeed.toNat ≤ 1900) ∧ (1 ≤ a.debounce.toNat ∧ a.debounce.toNat ≤ 15) ∧
      (2 ≤ a.deliveryOffset.toNat ∧ a.deliveryOffset.toNat ≤ 30) ∧ 1 ≤ a.boxDeadline.toNat
    let moved := a.deliveryOffset.toNat ≠ s.settings.deliveryOffset
    (s.sup.line ≠ .idle → run = answer s (.plain .badState)) ∧
    (s.sup.line = .idle → ¬inRange → run = answer s (.plain .badValue)) ∧
    (s.sup.line = .idle → inRange → moved → s.lot.table ≠ [] → run = answer s (.plain .inUse)) ∧
    (s.sup.line = .idle → inRange → (moved → s.lot.table = []) → ∃ t ids,
      run = answer t (.one .accepted (BitVec.ofNat 8 ids.length :: ids.map fun f : Fin 16 => BitVec.ofNat 8 (f.val + 1))) ∧
      ids = (List.finRange 16).filter (fun f => moved && (s.format f).state == .valid &&
        (firstFailure 1 (timingChecks s.store a.deliveryOffset.toNat (s.format f))).isSome) ∧
      t.settings = ⟨a.driveNode.toNat, a.feedNode.toNat, a.noticeAddress.toNat, a.motionTimeout.toNat, a.cutMinimum.toNat,
        a.overspeed.toNat, a.debounce.toNat, a.deliveryOffset.toNat, a.boxDeadline.toNat⟩ ∧
      (∀ f, t.format f = if f ∈ ids then { s.format f with state := .invalid } else s.format f) ∧
      t.store.channels = s.store.channels ∧ t.store.inputs = s.store.inputs ∧ t.store.map = s.store.map ∧
      (a.driveNode.toNat = s.settings.driveNode → t = { s with store := t.store }) ∧
      (a.driveNode.toNat ≠ s.settings.driveNode →
        t.pos = ⟨.unknown, s.pos.raw, s.pos.held, s.pos.lastCount, s.pos.lastTime, [], 0, 0, 0, none⟩ ∧
        (∀ i, t.chkInput i = ⟨.none, (s.chkInput i).pending, none, (s.chkInput i).consecutive⟩) ∧
        t = { s with store := t.store, pos := t.pos, chk := t.chk, reg := { s.reg with openCandidate := none } }))

/-! ### Formats -/

/-- A format request whose id is not 1 to 16 is refused with UNKNOWN_ID before any other test, in every line state (R26). -/
def Obligations.FormatRequestsRefuseUnknownIds : Prop :=
  ∀ (src tag id : Byte) (s : State), s.Takes src 1 → id.toNat = 0 ∨ 16 < id.toNat →
    exec (.formatOpen src tag id) s = .next (s.answered src 5 tag (.plain .unknownId)) ∧
    (∀ items, exec (.formatLoad src tag id items) s = .next (s.answered src 6 tag (.plain .unknownId))) ∧
    (∀ sum, exec (.formatCommit src tag id sum) s = .next (s.answered src 7 tag (.plain .unknownId))) ∧
    exec (.formatErase src tag id) s = .next (s.answered src 8 tag (.plain .unknownId)) ∧
    ∀ page, exec (.formatRead src tag id page) s = .next (s.answered src 9 tag (.plain .unknownId))

/-- FORMAT_OPEN and FORMAT_ERASE of a format in use are refused with IN_USE; else, in any of the four states, its entries
go back to the pool, its parameters take their values after FORMAT_OPEN, its sum becomes 0, its state OPEN or EMPTY, and
nothing else changes (R27, R29). A format is in use while a lot record of the table or a blank record of the tracking queue
has its number (R25). -/
def Obligations.FormatOpenAndEraseEmptyAFormat : Prop :=
  (∀ (f : Fin 16) (s : State), s.inUse f = true ↔
    (∃ l ∈ s.lot.table, l.format = f) ∨ ∃ r ∈ s.trq.queue, r.format = f) ∧
  ∀ (src tag : Byte) (f : Fin 16) (s : State), s.Takes src 1 →
    let id : Byte := BitVec.ofNat 8 (f.val + 1)
    let emptied : FormatState → Format := fun st =>
      ⟨st, 0, 0, 0, 0, 0, Vector.replicate 4 none, 0, 0, 0, 0, 0, 0, 0, 0, 0, false, Vector.replicate 4 ⟨[], []⟩⟩
    let becomes : State → FormatState → Prop := fun t st =>
      t = { s with store := { s.store with formats := t.store.formats } } ∧ t.format f = emptied st ∧
        (∀ g, g ≠ f → t.format g = s.format g) ∧
        ((s.store.formats.toList.map Format.windowCount).sum ≤ 512 →
          t.store.freeWindows = s.store.freeWindows + (s.format f).windowCount) ∧
        ((s.store.formats.toList.map Format.checkCount).sum ≤ 256 →
          t.store.freeChecks = s.store.freeChecks + (s.format f).checkCount)
    (s.inUse f = true →
      exec (.formatOpen src tag id) s = .next (s.answered src 5 tag (.plain .inUse)) ∧
      exec (.formatErase src tag id) s = .next (s.answered src 8 tag (.plain .inUse))) ∧
    (s.inUse f = false →
      (∃ t, exec (.formatOpen src tag id) s = .next (t.answered src 5 tag (.plain .accepted)) ∧ becomes t .open) ∧
      ∃ t, exec (.formatErase src tag id) s = .next (t.answered src 8 tag (.plain .accepted)) ∧ becomes t .empty)

/-- FORMAT_LOAD by the three tests of R28 in their order: refused without effect, or every item applied in order, answered
with the format's entry counts and the pool's free room. -/
def Obligations.FormatLoadByTheTests : Prop :=
  ∀ (src tag : Byte) (items : List LoadItem) (f : Fin 16) (s : State), s.Takes src 1 →
    let run := exec (.formatLoad src tag (BitVec.ofNat 8 (f.val + 1)) items) s
    let answer := fun (t : State) (r : Reply) => Host.Outcome.next (φ := Fault) (ρ := Refusal) (t.answered src 6 tag r)
    let old := s.format f
    (old.state ≠ .open → run = answer s (.plain .badState)) ∧
    (old.state = .open → (items.length = 0 ∨ 8 < items.length ∨ ∃ i ∈ items, readItem i = none) →
      run = answer s (.plain .badValue)) ∧
    ∀ loads : List Load, old.state = .open → 1 ≤ items.length → items.length ≤ 8 → items.map readItem = loads.map some →
      let new := loads.foldl Format.load old
      let fits := new.windowCount ≤ old.windowCount + s.store.freeWindows ∧
        new.checkCount ≤ old.checkCount + s.store.freeChecks
      (¬fits → run = answer s (.plain .full)) ∧
      (fits → ∃ t,
        run = answer t (.one .accepted (bigEndian 2 new.windowCount ++ bigEndian 2 new.checkCount ++
          bigEndian 2 t.store.freeWindows ++ bigEndian 2 t.store.freeChecks)) ∧
        t = { s with store := { s.store with formats := t.store.formats } } ∧ t.format f = new ∧
        ∀ g, g ≠ f → t.format g = s.format g)

/-- The ranges in which each kind of load item is well formed (R24, R28 test 2, R179) and what it is read as (R178); and what
an item changes: a parameter item the one field of its number, an entry replaces the one of its variant and channel or
joins it in ascending channel order, a class item changes one class, and no other entry, program or parameter changes
(R28, R30, R179). The codes 0 and 1 of a class item's present byte and of accept unlocked are the model's
choice (log 42). -/
def Obligations.LoadItemsByRangeAndEffect : Prop :=
  (∀ i : LoadItem,
    let value := (quad i.b2 i.b3 i.b4 i.b5).toNat
    let first := (half i.b3 i.b4).toNat
    let second := (half i.b5 i.b6).toNat
    let ranges : List (Nat × Nat × Nat) :=
      [(1, 1, 15), (2, 0, 16777215), (3, 0, 4095), (4, 16, 1024), (6, 1, 255), (7, 1, 1023), (8, 1, 1023), (9, 0, 16),
        (10, 1, 64), (11, 0, 512), (12, 1, 15), (13, 0, 63), (14, 0, 63), (15, 0, 1)]
    (i.kind.toNat = 1 → ((readItem i).isSome ↔ ∃ r ∈ ranges, r.1 = i.b1.toNat ∧ r.2.1 ≤ value ∧ value ≤ r.2.2)) ∧
    (i.kind.toNat = 2 → ((readItem i).isSome ↔ i.b1.toNat ≤ 3 ∧
      (i.b2.toNat = 0 ∨ (i.b2.toNat = 1 ∧ 1 ≤ first ∧ first ≤ second ∧ second ≤ 2047)))) ∧
    (i.kind.toNat = 3 → ((readItem i).isSome ↔
      i.b1.toNat ≤ 3 ∧ i.b2.toNat ≤ 23 ∧ first ≤ 4095 ∧ second ≤ 4095 ∧ first ≠ second)) ∧
    (i.kind.toNat = 4 → ((readItem i).isSome ↔ i.b1.toNat ≤ 3 ∧ i.b2.toNat ≤ 15 ∧ first ≤ second ∧ second ≤ 4095 ∧
      i.b7.toNat ≤ 1 ∧ (i.b8.toNat ≤ 23 ∨ i.b8.toNat = 255))) ∧
    (i.kind.toNat = 0 ∨ 4 < i.kind.toNat → readItem i = none) ∧
    ∀ l, readItem i = some l →
      (i.kind.toNat = 1 → l = .parameter i.b1.toNat value) ∧
      (i.kind.toNat = 2 → ∃ v : Fin 4, v.val = i.b1.toNat ∧
        l = .markClass v (if i.b2.toNat = 0 then none else some ⟨first, second⟩)) ∧
      (i.kind.toNat = 3 → ∃ (v : Fin 4) (c : Fin 24), v.val = i.b1.toNat ∧ c.val = i.b2.toNat ∧
        l = .window v ⟨c, first, second⟩) ∧
      (i.kind.toNat = 4 → ∃ (v : Fin 4) (k : Fin 16) (paired : Option (Fin 24)), v.val = i.b1.toNat ∧
        k.val = i.b2.toNat ∧ (paired.map Fin.val = if i.b8.toNat = 255 then none else some i.b8.toNat) ∧
        l = .check v ⟨k, first, second, if i.b7.toNat = 1 then .present else .absent, paired⟩)) ∧
  (∀ (f : Format) (n : Nat),
    f.load (.parameter 1 n) = { f with sizeClass := n } ∧
    f.load (.parameter 3 n) = { f with nominal := n } ∧ f.load (.parameter 4 n) = { f with half := n } ∧
    f.load (.parameter 6 n) = { f with lockWindow := n } ∧ f.load (.parameter 7 n) = { f with warn := n } ∧
    f.load (.parameter 8 n) = { f with reject := n } ∧ f.load (.parameter 9 n) = { f with gain := n } ∧
    f.load (.parameter 10 n) = { f with stepMax := n } ∧ f.load (.parameter 11 n) = { f with trimMax := n } ∧
    f.load (.parameter 12 n) = { f with lossLimit := n } ∧ f.load (.parameter 13 n) = { f with holdoff := n } ∧
    f.load (.parameter 14 n) = { f with span := n } ∧
    f.load (.parameter 15 n) = { f with acceptUnlocked := decide (n = 1) } ∧
    ∃ required : BitVec 24, f.load (.parameter 2 n) = { f with required := required } ∧
      ∀ c : Fin 24, required.getLsbD c.val = decide (n / 2 ^ c.val % 2 = 1)) ∧
  (∀ (f : Format) (v : Fin 4),
    (∀ w : WindowEntry, let g := f.load (.window v w)
      g = { f with programs := g.programs } ∧ (∀ u, u ≠ v → g.program u = f.program u) ∧
        (g.program v).checks = (f.program v).checks ∧ (g.program v).window? w.channel = some w ∧
        (∀ c, c ≠ w.channel → (g.program v).window? c = (f.program v).window? c) ∧
        ((f.program v).windows.Pairwise (fun a b => a.channel < b.channel) →
          (g.program v).windows.Pairwise (fun a b => a.channel < b.channel) ∧
          g.windowCount = if ((f.program v).window? w.channel).isSome then f.windowCount else f.windowCount + 1)) ∧
    (∀ k : CheckEntry, let g := f.load (.check v k)
      g = { f with programs := g.programs } ∧ (∀ u, u ≠ v → g.program u = f.program u) ∧
        (g.program v).windows = (f.program v).windows ∧ (g.program v).check? k.input = some k ∧
        (∀ i, i ≠ k.input → (g.program v).check? i = (f.program v).check? i) ∧
        ((f.program v).checks.Pairwise (fun a b => a.input < b.input) →
          (g.program v).checks.Pairwise (fun a b => a.input < b.input) ∧
          g.checkCount = if ((f.program v).check? k.input).isSome then f.checkCount else f.checkCount + 1)) ∧
    ∀ c : Option MarkClass, let g := f.load (.markClass v c)
      g = { f with classes := g.classes } ∧ g.classes.get v = c ∧ ∀ u, u ≠ v → g.classes.get u = f.classes.get u)

/-- FORMAT_COMMIT by the groups of R31 in order: not OPEN, BAD_STATE; the first field check that fails, BAD_VALUE; the
first timing check that fails, TIMING; the format stays OPEN. Else the computed sum is stored and the format is VALID
where it agrees with the sum sent and INVALID where not. Which of several failing subjects is named is free (log 20). -/
def Obligations.FormatCommitByTheGroups : Prop :=
  ∀ (src tag : Byte) (sum : Half) (f : Fin 16) (s : State), s.Takes src 1 →
    let run := exec (.formatCommit src tag (BitVec.ofNat 8 (f.val + 1)) sum) s
    let answer := fun (t : State) (r : Reply) => Host.Outcome.next (φ := Fault) (ρ := Refusal) (t.answered src 7 tag r)
    let old := s.format f
    let fields := fieldChecks s.store old
    let timings := timingChecks s.store s.settings.deliveryOffset old
    let computed := old.contentSum (f.val + 1)
    let named : Nat → Subject → List Byte := fun n x =>
      [BitVec.ofNat 8 n, BitVec.ofNat 8 (match x.1 with | some v => v.val | none => 255), BitVec.ofNat 8 (x.2.getD 255)]
    (old.state ≠ .open → run = answer s (.plain .badState)) ∧
    (old.state = .open →
      (∀ passed subjects rest, fields = passed ++ subjects :: rest → (∀ l ∈ passed, l = []) → subjects ≠ [] →
        ∃ x ∈ subjects, run = answer { s with free := s.free + 1 } (.one .badValue (named (passed.length + 1) x))) ∧
      ((∀ l ∈ fields, l = []) →
        (∀ passed subjects rest, timings = passed ++ subjects :: rest → (∀ l ∈ passed, l = []) → subjects ≠ [] →
          ∃ x ∈ subjects, run = answer { s with free := s.free + 1 } (.one .timing (named (passed.length + 1) x))) ∧
        ((∀ l ∈ timings, l = []) → ∃ t,
          run = answer t (.one (if computed = sum.toNat then .accepted else .checkFail) (bigEndian 2 computed)) ∧
          t = { s with store := { s.store with formats := t.store.formats } } ∧ (∀ g, g ≠ f → t.format g = s.format g) ∧
          t.format f =
            { old with state := if computed = sum.toNat then .valid else .invalid, storedSum := computed })))

/-- What the commit checks ask. The field checks (R32), each passing exactly when its condition holds, and naming a channel
or a variant it fails on; the eight timing checks (R33), each in its place and passing exactly when its bound holds, counted
from the start of the birth pitch, and naming an entry it fails on; and the content sum (R34). -/
def Obligations.CommitChecksAreTheirConditions : Prop :=
  (∀ (st : Store) (f : Format),
    let present := fun v => (f.program v).windows ≠ [] ∨ (f.program v).checks ≠ []
    let off := fun c : Fin 24 => (st.channels.get c).source = .disabled
    ∃ c1 c2 c3 c4 c5 c6 c7 c8 c9 c10 c11 c12 : List Subject,
      fieldChecks st f = [c1, c2, c3, c4, c5, c6, c7, c8, c9, c10, c11, c12] ∧
      (c1 = [] ↔ f.sizeClass ≠ 0 ∧ f.half ≠ 0 ∧ f.lockWindow ≠ 0 ∧ f.warn ≠ 0 ∧ f.reject ≠ 0 ∧ f.stepMax ≠ 0 ∧
        f.lossLimit ≠ 0) ∧
      (c2 = [] ↔ f.warn ≤ f.reject) ∧
      (c3 = [] ↔ (f.classes.get 0).isSome = true) ∧
      (c4 = [] ↔ ∀ u v c d, u ≠ v → f.classes.get u = some c → f.classes.get v = some d → c.max < d.min ∨ d.max < c.min) ∧
      (c5 = [] ↔ ∀ v, (f.classes.get v).isSome = true ↔ present v) ∧
      (∀ x ∈ c5, ∃ v, x = (some v, none) ∧ ¬((f.classes.get v).isSome = true ↔ present v)) ∧
      (c6 = [] ↔ ∃ i, (st.inputs.get i).function = .mark) ∧
      (c7 = [] ↔ ∀ c : Fin 24, f.required.getLsbD c.val = true → ¬off c) ∧
      (∀ x ∈ c7, ∃ c : Fin 24, x = (none, some c.val) ∧ f.required.getLsbD c.val = true ∧ off c) ∧
      (c8 = [] ↔ ∀ v, ∀ w ∈ (f.program v).windows, ¬off w.channel) ∧
      (∀ x ∈ c8, ∃ v, ∃ w ∈ (f.program v).windows, x = (some v, some w.channel.val) ∧ off w.channel) ∧
      (c9 = [] ↔ ∀ fn ∈ [ActFunction.knife, .gate, .finger], ∃ c, (st.channels.get c).function = fn ∧ ¬off c) ∧
      (c10 = [] ↔ ∀ fn ∈ [ActFunction.knife, .gate, .finger], ∀ c, st.channelOf fn = some c →
        ∃ on off, ∀ v, present v → (f.program v).window? c = some ⟨c, on, off⟩) ∧
      (c11 = [] ↔ ∀ v, ∀ k ∈ (f.program v).checks, (st.inputs.get k.input).function = .check) ∧
      (∀ x ∈ c11, ∃ v, ∃ k ∈ (f.program v).checks, x = (some v, some k.input.val) ∧
        (st.inputs.get k.input).function ≠ .check) ∧
      (c12 = [] ↔ ∀ v, ∀ k ∈ (f.program v).checks, ∀ c, k.paired = some c → ∃ w, (f.program v).window? c = some w)) ∧
  (∀ (st : Store) (s : Nat) (f : Format) (gate finger : Fin 24), st.channelOf .gate = some gate →
    st.channelOf .finger = some finger →
    let offset := fun c => (st.channels.get c).offset
    let issue := fun (c : Fin 24) (on : Nat) => (offset c * 4096 + on : Int) - 2047 - 256
    let decision : Int := f.nominal + f.half + 128
    let g := issue gate (f.stationOn gate)
    let present := fun v => (f.program v).windows ≠ [] ∨ (f.program v).checks ≠ []
    let same := fun c => ∃ on off, ∀ v, present v → (f.program v).window? c = some ⟨c, on, off⟩
    let close := fun k : CheckEntry => ((st.inputs.get k.input).offset * 4096 + k.stop + 128 : Int)
    let late := fun w : WindowEntry => s < offset w.channel
    let undecided := fun w : WindowEntry => issue w.channel w.on < decision
    let skips := fun w : WindowEntry => (st.channels.get w.channel).policy = .skipReject
    let channelNamed := fun (v : Fin 4) (w : WindowEntry) => ((some v, some w.channel.val) : Subject)
    ∃ c1 c2 c3 c4 c5 c6 c7 c8 : List Subject, timingChecks st s f = [c1, c2, c3, c4, c5, c6, c7, c8] ∧
      (c1 = [] ↔ ∀ v, ∀ w ∈ (f.program v).windows, ¬late w) ∧
      (∀ x ∈ c1, ∃ v, ∃ w ∈ (f.program v).windows, x = channelNamed v w ∧ late w) ∧
      (c2 = [] ↔ ∀ v, ∀ w ∈ (f.program v).windows, ¬same w.channel → ¬undecided w) ∧
      (∀ x ∈ c2, ∃ v, ∃ w ∈ (f.program v).windows, x = channelNamed v w ∧ ¬same w.channel ∧ undecided w) ∧
      (c3 = [] ↔ ∀ v, ∀ w ∈ (f.program v).windows, skips w → ¬undecided w) ∧
      (∀ x ∈ c3, ∃ v, ∃ w ∈ (f.program v).windows, x = channelNamed v w ∧ skips w ∧ undecided w) ∧
      (c4 = [] ↔ ∀ v, ∀ k ∈ (f.program v).checks, close k < g) ∧
      (∀ x ∈ c4, ∃ v, ∃ k ∈ (f.program v).checks, x = (some v, some k.input.val) ∧ g ≤ close k) ∧
      (c5 = [] ↔ offset gate < s) ∧
      (c6 = [] ↔ offset gate ≤ offset finger ∧ offset finger ≤ s) ∧
      (c7 = [] ↔ (offset gate * 4096 + f.stationOn gate - 256 : Int) ≤ issue finger (f.stationOn finger)) ∧
      (c8 = [] ↔ decision + 1024 ≤ g) ∧
      (∀ c, same c → ∀ v w, (f.program v).window? c = some w → f.stationOn c = w.on)) ∧
  ∀ (id : Nat) (f : Format),
    let ofClass := fun v => match f.classes.get v with | some c => c.min + c.max | none => 0
    let ofProgram := fun v : Fin 4 =>
      ((f.program v).windows.map fun w => 1 + v.val + w.channel.val + w.on + w.off).sum +
        ((f.program v).checks.map fun k => 1 + v.val + k.input.val + k.start + k.stop +
          (if k.expect = .present then 1 else 0) + (match k.paired with | some c => c.val | none => 0)).sum
    f.contentSum id = (id + f.sizeClass + f.nominal + f.half + f.lockWindow + f.warn + f.reject + f.gain + f.stepMax +
      f.trimMax + f.lossLimit + f.holdoff + f.span + (if f.acceptUnlocked then 1 else 0) + f.required.toNat +
      (ofClass 0 + ofClass 1 + ofClass 2 + ofClass 3) +
      (ofProgram 0 + ofProgram 1 + ofProgram 2 + ofProgram 3)) % 65536

/-! ### Reads -/

/-- FORMAT_READ, LOT_READ, TRACK_READ and LOG_READ answer from the state and change nothing but the response's place, and
what they answer has the layouts of 12.3 and 12.4, field by field: page 0, the entries of a page in the list of R30, the
lot record, the blank record, the fault record and the two heads (R30, R70, R134, R161, R178). That in use, present, accept
unlocked and the contamination mark are sent as 1 and 0 is the model's choice (log 42); the widths of an absent class are
free (log 35). -/
def Obligations.ReadsOnlyAnswer : Prop :=
  (∀ (s : State) (f : Fin 16),
    let x := s.format f
    let windows := fun (g : Fin 16) (v : Fin 4) => ((s.format g).program v).windows.length
    let checks := fun (g : Fin 16) (v : Fin 4) => ((s.format g).program v).checks.length
    let held := fun n : Fin 16 → Fin 4 → Nat => ((List.finRange 16).map fun g => n g 0 + n g 1 + n g 2 + n g 3).sum
    carries (pageZero s f)
      [(0, 1, match x.state with | .empty => 0 | .open => 1 | .valid => 2 | .invalid => 3),
        (1, 1, if s.inUse f then 1 else 0), (2, 2, x.storedSum), (4, 1, f.val + 1), (5, 1, x.sizeClass),
        (6, 4, x.required.toNat), (10, 2, x.nominal), (12, 2, x.half), (34, 1, x.lockWindow), (35, 2, x.warn),
        (37, 2, x.reject), (39, 1, x.gain), (40, 1, x.stepMax), (41, 2, x.trimMax), (43, 1, x.lossLimit),
        (44, 1, x.holdoff), (45, 1, x.span), (46, 1, if x.acceptUnlocked then 1 else 0), (55, 2, 512 - held windows),
        (57, 2, 256 - held checks)] ∧
    (∀ v : Fin 4,
      carries (pageZero s f) [(14 + 5 * v.val, 1, if (x.classes.get v).isSome then 1 else 0),
        (47 + 2 * v.val, 1, windows f v), (48 + 2 * v.val, 1, checks f v)] ∧
      ∀ c, x.classes.get v = some c →
        carries (pageZero s f) [(15 + 5 * v.val, 2, c.min), (17 + 5 * v.val, 2, c.max)]) ∧
    ∀ n, 1 ≤ n →
      let total := windows f 0 + checks f 0 + windows f 1 + checks f 1 + windows f 2 + checks f 2 + windows f 3 + checks f 3
      carries (pageEntries s f n) [(0, 1, min 16 (total - 16 * (n - 1)))] ∧
      ∀ (j : Nat) (v : Fin 4), j < 16 →
        let first := (((List.finRange 4).filter fun u => u < v).map fun u => windows f u + checks f u).sum
        (∀ (k : Nat) (w : WindowEntry), (x.program v).windows[k]? = some w → 16 * (n - 1) + j = first + k →
          carries (pageEntries s f n) [(1 + 9 * j, 1, 3), (2 + 9 * j, 1, v.val), (3 + 9 * j, 1, w.channel.val),
            (4 + 9 * j, 2, w.on), (6 + 9 * j, 2, w.off), (8 + 9 * j, 2, 0)]) ∧
        ∀ (k : Nat) (e : CheckEntry), (x.program v).checks[k]? = some e → 16 * (n - 1) + j = first + windows f v + k →
          carries (pageEntries s f n) [(1 + 9 * j, 1, 4), (2 + 9 * j, 1, v.val), (3 + 9 * j, 1, e.input.val),
            (4 + 9 * j, 2, e.start), (6 + 9 * j, 2, e.stop), (8 + 9 * j, 1, if e.expect = .present then 1 else 0),
            (9 + 9 * j, 1, match e.paired with | some c => c.val | none => 255)]) ∧
  (∀ (place count committed : Nat) (l : Lot), carries (l.bytes place count committed)
    [(0, 1, place), (1, 1, count), (2, 2, l.key.id), (4, 1, l.key.makeUp), (5, 1, l.format.val + 1), (6, 4, l.target),
      (10, 2, l.batchSize), (12, 1, if l.makeUp then 1 else 0),
      (13, 1, match l.state with | .queued => 0 | .cutting => 1 | .closed => 2), (14, 4, l.cut), (18, 4, l.finalGood),
      (22, 4, l.stacked), (26, 4, l.diverted), (30, 4, l.undiverted), (34, 4, l.purged), (38, 4, l.inFlight),
      (42, 4, committed), (46, 3, match l.openBatch with | some b => b.1 | none => 0),
      (49, 2, match l.openBatch with | some b => b.2 | none => 0), (51, 3, l.nextBatch), (54, 3, l.completed),
      (57, 2, l.delivered), (59, 1, if l.contaminated then 1 else 0)]) ∧
  (∀ r : Record,
    let bit := fun (b : Bool) (weight : Nat) => if b then weight else 0
    r.bytes.length = 57 ∧
    carries r.bytes
      [(0, 4, r.serial), (4, 4, r.birth), (8, 2, r.lot.id), (10, 1, r.lot.makeUp), (11, 1, r.format.val + 1),
        (12, 1, match r.variant with | some v => v.val | none => 255),
        (15, 1, match r.final with | none => 0 | some .good => 1 | some .diverted => 2 | some .undiverted => 3),
        (16, 1, bit r.poisoned 1 + bit r.unmarkedEnd 2 + bit r.slot.isSome 4 +
          bit (match r.slot with | some x => x.batchEnd | none => false) 8),
        (17, 1, bit r.defects.markMissing 1 + bit r.defects.markUnreadable 2 + bit r.defects.regUnlocked 4 +
          bit r.defects.regError 8 + bit r.defects.splice 16 + bit r.defects.check 32 + bit r.defects.rest 64),
        (18, 3, match r.slot with | some x => x.batch | none => 0),
        (21, 2, match r.slot with | some x => x.index | none => 0),
        (23, 1, r.failed.length), (32, 1, r.suppressed.length)] ∧
    (r.variant = none → carries r.bytes [(13, 2, 0)]) ∧
    (∀ v e, r.variant = some v → r.error = some e → carries r.bytes [(13, 2, (e % 65536).toNat)]) ∧
    (∀ j, j < 16 → fieldAt r.bytes (24 + j / 2) 1 / (if j % 2 = 0 then 16 else 1) % 16 = (r.failed.map Fin.val).getD j 0) ∧
    ∀ j, j < 24 → carries r.bytes [(33 + j, 1, (r.suppressed.map Fin.val).getD j 0)]) ∧
  (∀ r : FaultRecord,
    let kinds := [FaultKind.motionLost, .reverse, .positionJump, .overspeed, .outboundOverrun, .linkDown, .regLost, .trimLimit,
      .consecutiveDefect, .undivertedReject, .boxLate, .boxOverflow, .formatInvalid, .formatCheck, .stationMissing]
    r.bytes.length = 15 ∧
    carries r.bytes
      [(0, 4, r.sequence), (4, 1, kinds.idxOf r.kind + 1), (5, 1, match r.effect with | .none => 0 | .stop => 1 | .safe => 2),
        (6, 1, match r.line with | .idle => 0 | .run => 1 | .runout => 2 | .safe => 3), (7, 4, r.pitch)] ∧
    (∀ n, r.detail = .number n → carries r.bytes [(11, 4, (n % 4294967296).toNat)]) ∧
    ∀ k, r.detail = .key k → carries r.bytes [(11, 2, k.id), (13, 1, k.makeUp), (14, 1, 0)]) ∧
  ∀ (src tag : Byte) (s : State), src ≠ s.rif.own → s.rif.linkUp = true →
    (∀ (f : Fin 16) (page : Byte), s.Takes src 1 →
      exec (.formatRead src tag (BitVec.ofNat 8 (f.val + 1)) page) s =
        .next (s.answered src 9 tag (.one .accepted (if page = 0 then pageZero s f else pageEntries s f page.toNat))) ∧
      (pageZero s f).length = 59 ∧
      (pageEntries s f page.toNat).length =
        1 + 9 * min 16 ((s.format f).windowCount + (s.format f).checkCount - 16 * (page.toNat - 1))) ∧
    (∀ (selector : Byte) (id : Half) (place : Byte), s.Takes src 1 →
      let run := exec (.lotRead src tag selector id place) s
      (1 < selector.toNat → run = .next (s.answered src 12 tag (.plain .badValue))) ∧
      (selector = 0 → (∀ l ∈ s.lot.table, l.key ≠ ⟨id.toNat, place.toNat⟩) →
        run = .next (s.answered src 12 tag (.plain .unknownId))) ∧
      (selector = 1 → s.lot.table.length ≤ place.toNat → run = .next (s.answered src 12 tag (.plain .unknownId))) ∧
      ∀ before l after, s.lot.table = before ++ l :: after →
        (selector = 0 ∧ l.key = ⟨id.toNat, place.toNat⟩ ∧ (∀ x ∈ before, x.key ≠ l.key)) ∨
          (selector = 1 ∧ place.toNat = before.length) →
        run = .next (s.answered src 12 tag (.one .accepted (l.bytes before.length s.lot.table.length (s.committed l)))) ∧
        (l.bytes before.length s.lot.table.length (s.committed l)).length = 60) ∧
    (s.Takes src (partCount (8 + 57 * s.trq.queue.length)) →
      exec (.trackRead src tag) s = .next (s.answered src 20 tag ⟨.accepted, cutParts 8 (trackBytes s)⟩) ∧
      (trackBytes s).length = 8 + 57 * s.trq.queue.length ∧ (trackBytes s).drop 8 = s.trq.queue.flatMap Record.bytes ∧
      carries (trackBytes s) [(0, 1, match s.sup.line with | .idle => 0 | .run => 1 | .runout => 2 | .safe => 3),
        (1, 1, s.settings.deliveryOffset), (2, 1, s.settings.deliveryOffset + 2), (3, 4, s.trq.serial),
        (7, 1, s.trq.queue.length)]) ∧
    ∀ first : Quad,
      let shown := s.sup.log.filter fun r => first.toNat ≤ r.sequence
      s.Takes src (partCount (7 + 15 * shown.length)) →
      exec (.logRead src tag first) s = .next (s.answered src 22 tag ⟨.accepted, cutParts 2 (logBytes s first.toNat)⟩) ∧
      (logBytes s first.toNat).length = 7 + 15 * shown.length ∧
      (logBytes s first.toNat).drop 7 = shown.flatMap FaultRecord.bytes ∧
      carries (logBytes s first.toNat)
        [(0, 4, s.sup.lastSequence), (4, 1, s.sup.log.length), (5, 1, s.sup.overflow), (6, 1, shown.length)]

/-- STATUS_READ answers with the two parts of one picture, 86 and 87 bytes with the fields of 12.5, which show both latched
flags as they stood, and clears both; nothing else changes (R165, R166, R45, R178). That the flags' bytes, 27 and 29, are
sent as 1 and 0 is the model's choice (log 42). COUNTERS_READ: an empty set of groups, a bit beyond the six,
or another clear code is refused; else the counters of the chosen groups are answered in ascending number as they stand, and
with the clear flag each of them becomes 0 and no other changes (R163, R164). -/
def Obligations.StatusAndCountersReadsClearWhatTheyShow : Prop :=
  (∀ (src tag : Byte) (s : State), s.Takes src 2 →
    exec (.statusRead src tag) s =
      .next ({ s with reg := { s.reg with lost := false }, rif := { s.rif with linkDownFlag := false } }.answered src 19 tag
        ⟨.accepted, [statusPartOne s, statusPartTwo s]⟩) ∧
    (statusPartOne s).length = 86 ∧ (statusPartTwo s).length = 87 ∧
    carries (statusPartOne s)
      [(0, 1, match s.sup.line with | .idle => 0 | .run => 1 | .runout => 2 | .safe => 3),
        (1, 1, match s.sup.reason with | .none => 0 | .request => 1 | .fault _ => 2 | .changeover => 3 | .lotsExhausted => 4),
        (2, 4, match s.sup.reason with | .fault n => n | _ => 0), (6, 4, s.sup.lastSequence), (10, 1, s.sup.log.length),
        (11, 1, s.sup.overflow), (12, 1, match s.pos.state with | .unknown => 0 | .known => 1),
        (13, 4, s.pos.held / 4096), (17, 2, s.pos.held % 4096), (19, 3, s.pos.s), (22, 2, s.pos.v),
        (24, 1, match s.reg.lock with | .off => 0 | .holdoff => 1 | .search => 2 | .acquire => 3 | .locked => 4),
        (25, 2, (s.reg.trim % 65536).toNat), (27, 1, if s.reg.lost then 1 else 0), (28, 1, if s.rif.linkUp then 1 else 0),
        (29, 1, if s.rif.linkDownFlag then 1 else 0)] ∧
    (∀ c : Fin 24, carries (statusPartOne s)
      [(30 + c.val, 1, match (s.camChannel c).level with | .none => 0 | .off => 1 | .on => 2)]) ∧
    (∀ i : Fin 16, carries (statusPartOne s)
      [(54 + 2 * i.val, 1, match (s.chkInput i).pulse with | .none => 0 | .pending _ => 1 | .open _ => 2),
        (55 + 2 * i.val, 1, (s.chkInput i).consecutive)]) ∧
    carries (statusPartTwo s) [(0, 1, s.lot.runClass.getD 0), (1, 1, s.lot.table.length), (66, 1, s.lot.boxes.length)] ∧
    (∀ k l, k < 8 → s.lot.table[k]? = some l → carries (statusPartTwo s)
      [(2 + 8 * k, 2, l.key.id), (4 + 8 * k, 1, l.key.makeUp),
        (5 + 8 * k, 1, match l.state with | .queued => 0 | .cutting => 1 | .closed => 2), (6 + 8 * k, 4, l.inFlight)]) ∧
    (∀ k, s.lot.table.length ≤ k → k < 8 → carries (statusPartTwo s) [(2 + 8 * k, 8, 0)]) ∧
    (∀ k e, k < 2 → s.lot.boxes[k]? = some e → carries (statusPartTwo s)
      [(67 + 10 * k, 2, e.batch.key.id), (69 + 10 * k, 1, e.batch.key.makeUp), (70 + 10 * k, 3, e.batch.number),
        (73 + 10 * k, 2, e.batch.good), (75 + 10 * k, 1, (if e.batch.contaminated then 1 else 0) +
          (if e.batch.unmarkedEnd then 2 else 0) + if e.batch.short then 4 else 0), (76 + 10 * k, 1, e.deadline)]) ∧
    ∀ k, s.lot.boxes.length ≤ k → k < 2 → carries (statusPartTwo s) [(67 + 10 * k, 10, 0)]) ∧
  ∀ (src tag groups clear : Byte) (s : State), s.Takes src 1 →
    let run := exec (.countersRead src tag groups clear) s
    let group : Fin 38 → Nat := fun c =>
      if c.val ≤ 1 then 0 else if c.val ≤ 7 then 1 else if c.val ≤ 10 then 2 else if c.val ≤ 19 then 3
      else if c.val ≤ 35 then 4 else 5
    let bad := groups = 0 ∨ 64 ≤ groups.toNat ∨ 2 ≤ clear.toNat
    let chosen := (List.finRange 38).filter fun c => groups.getLsbD (group c)
    (bad → run = .next (s.answered src 21 tag (.plain .badValue))) ∧
    (¬bad → ∃ t : State, run = .next (t.answered src 21 tag
        (.one .accepted (chosen.flatMap fun c => bigEndian 2 (s.sup.counters.get c)))) ∧
      t = { s with sup := { s.sup with counters := t.sup.counters } } ∧
      ∀ c, t.sup.counters.get c = if clear = 1 ∧ c ∈ chosen then 0 else s.sup.counters.get c)

/-- LOG_CLEAR, judged in the order of R162 in every line state: with an empty log and no overflow nothing is done and the
answer is ACCEPTED; with the last fault sequence the log is emptied and the overflow count becomes 0; any other sequence is
STALE and does nothing. Every answer carries the last fault sequence, which no clear changes. -/
def Obligations.LogClearByTheTable : Prop :=
  ∀ (src tag : Byte) (sequence : Quad) (s : State), s.Takes src 1 →
    let run := exec (.logClear src tag sequence) s
    let results := bigEndian 4 s.sup.lastSequence
    let nothing := s.sup.log = [] ∧ s.sup.overflow = 0
    (nothing → run = .next (s.answered src 23 tag (.one .accepted results))) ∧
    (¬nothing → sequence.toNat = s.sup.lastSequence →
      run = .next ({ s with sup := { s.sup with log := [], overflow := 0 } }.answered src 23 tag (.one .accepted results))) ∧
    (¬nothing → sequence.toNat ≠ s.sup.lastSequence → run = .next (s.answered src 23 tag (.one .stale results)))

/-! ### Lots -/

/-- LOT_ADD by the five tests of R132 in their order: refused without effect, or a new QUEUED lot with all counts 0 at the
tail of the table. A make-up code other than 0 and 1 (12.4) is refused before these tests (log 24). -/
def Obligations.LotAddByTheTests : Prop :=
  ∀ (src tag : Byte) (a : LotArgs) (s : State), s.Takes src 1 →
    let run := exec (.lotAdd src tag a) s
    let answer := fun (t : State) (r : Reply) => Host.Outcome.next (φ := Fault) (ρ := Refusal) (t.answered src 10 tag r)
    let inRange := 1 ≤ a.id.toNat ∧ (1 ≤ a.target.toNat ∧ a.target.toNat ≤ 1000000) ∧
      (1 ≤ a.batchSize.toNat ∧ a.batchSize.toNat ≤ 5000)
    (1 < a.makeUp.toNat → run = answer s (.plain .badValue)) ∧
    (a.makeUp.toNat ≤ 1 → (a.format.toNat = 0 ∨ 16 < a.format.toNat) → run = answer s (.plain .unknownId)) ∧
    ∀ f : Fin 16, a.makeUp.toNat ≤ 1 → a.format.toNat = f.val + 1 →
      let taken := ∃ l ∈ s.lot.table, l.key = ⟨a.id.toNat, 0⟩
      (¬inRange ∨ taken → run = answer s (.plain .badValue)) ∧
      (inRange → ¬taken → (s.format f).state ≠ .valid → run = answer s (.plain .badState)) ∧
      (inRange → ¬taken → (s.format f).state = .valid → 8 ≤ s.lot.table.length → run = answer s (.plain .full)) ∧
      (inRange → ¬taken → (s.format f).state = .valid → s.lot.table.length < 8 →
        run = answer
          { s with lot := { s.lot with table := s.lot.table ++
            [⟨⟨a.id.toNat, 0⟩, f, a.target.toNat, a.batchSize.toNat, a.makeUp == 1, .queued, 0, 0, 0, 0, 0, 0, 0, none, 1, 0,
              0, false⟩] } }
          (.one .accepted [BitVec.ofNat 8 s.lot.table.length, BitVec.ofNat 8 (s.lot.table.length + 1)]))

/-- LOT_CANCEL by the lot's state (R133): a QUEUED lot leaves; a CLOSED lot and a CUTTING lot with records in flight lose
their make-up, the CUTTING one closing; a CUTTING lot with none in flight ends at once and is answered ENDED, with its last batch
completed where the box queue has room, and its LOT_DONE notice ahead of the response; its make-up outcome is NOT_NEEDED or
DISABLED (R122, R139, R140). -/
def Obligations.LotCancelByTheState : Prop :=
  ∀ (src tag : Byte) (id : Half) (makeUp : Byte) (s : State), s.Takes src 1 → s.Settled →
    let run := exec (.lotCancel src tag id makeUp) s
    let key : LotKey := ⟨id.toNat, makeUp.toNat⟩
    let with' : (Lot → Lot) → State := fun g =>
      { s with lot := { s.lot with table := s.lot.table.map fun l => if l.key = key then g l else l } }
    let without := s.lot.table.filter fun l => l.key ≠ key
    ((∀ l ∈ s.lot.table, l.key ≠ key) → run = .next (s.answered src 11 tag (.plain .unknownId))) ∧
    ∀ before l after, s.lot.table = before ++ l :: after → l.key = key → (∀ x ∈ before, x.key ≠ key) →
      (l.state = .queued → run =
        .next ({ s with lot := { s.lot with table := without } }.answered src 11 tag (.one .accepted [0]))) ∧
      (l.state = .closed → run =
        .next ((with' fun x => { x with makeUp := false }).answered src 11 tag (.one .accepted [1]))) ∧
      (l.state = .cutting → 0 < l.inFlight → run =
        .next ((with' fun x => { x with state := .closed, makeUp := false }).answered src 11 tag (.one .accepted [1]))) ∧
      (l.state = .cutting → l.inFlight = 0 →
        let last := 0 < l.delivered ∨ l.contaminated = true
        (last → s.lot.boxes.length < 2) → ∃ t, run = .next t ∧ t.lot.table = without ∧ t.lot.runClass = s.lot.runClass ∧
          (¬last → t.lot.boxes = s.lot.boxes) ∧
          (last → t.lot.boxes = s.lot.boxes ++
            [⟨⟨key, l.completed + 1, l.delivered, l.contaminated, true, l.delivered < l.batchSize⟩,
              s.settings.boxDeadline⟩]) ∧
          (s.rif.tx ≠ .idle → 4 ≤ s.rif.freePlaces → t.rif.management = s.rif.management ++
            (if last then [.notice s.settings.noticeAddress (.batchDone
              ⟨key, l.completed + 1, l.delivered, l.contaminated, true, l.delivered < l.batchSize⟩ true
                (s.lot.boxes.length + 1))] else []) ++
            [.notice s.settings.noticeAddress (.lotDone ⟨key, l.format, l.target, l.batchSize, l.cut, l.stacked, l.diverted,
                l.undiverted, l.purged, if last then l.completed + 1 else l.completed, l.target - l.stacked,
                if l.target - l.stacked = 0 then .notNeeded else .disabled, none⟩),
              .response ⟨src, 11, tag, .accepted, 1, true, [2]⟩]) ∧
          t = { s with lot := t.lot, rif := t.rif, sup := { s.sup with counters := t.sup.counters } })

/-! ### Line states -/

/-- LINE_START by its three tests, the first failing one named; else one operation: RUN with reason NONE, the running size
class, the lock and trim by R51, TRIM ahead of DRIVE RUN, the LINE_STATE notice ahead of the response (R146, R141, R51,
R154). -/
def Obligations.LineStartByTheTests : Prop :=
  ∀ (src tag : Byte) (s : State), s.Takes src 1 → s.Settled →
    let run := exec (.lineStart src tag) s
    let refused := fun (test : Byte) => Host.Outcome.next (φ := Fault) (ρ := Refusal)
      (s.answered src 13 tag (.one .badState [BitVec.ofNat 8 s.sup.line.code, BitVec.ofNat 8 (s.lot.runClass.getD 0), test]))
    (s.sup.line ≠ .idle → run = refused 1) ∧
    (s.sup.line = .idle → s.pos.state = .unknown → run = refused 2) ∧
    (s.sup.line = .idle → s.pos.state = .known → (∀ l ∈ s.lot.table, l.state = .closed) → run = refused 3) ∧
    ∀ l, s.sup.line = .idle → s.pos.state = .known → s.rif.outbound.length ≤ 62 →
      (s.cuttingLot = some l ∨ (s.cuttingLot = none ∧ s.headQueued = some l)) →
      let f := s.format l.format
      let same := s.reg.trimClass = some f.sizeClass
      ∃ t, run = .next t ∧
        t = { s with sup := t.sup, reg := t.reg, lot := { s.lot with runClass := some f.sizeClass }, rif := t.rif } ∧
        t.sup = { s.sup with line := .run, reason := .none, counters := t.sup.counters } ∧
        (same → t.reg.trim = s.reg.trim ∧ t.reg.inForce = s.reg.inForce) ∧
        (¬same → t.reg.trim = 0 ∧ t.reg.inForce =
          some ⟨f.lockWindow, f.gain, f.stepMax, f.trimMax, f.lossLimit, f.holdoff, f.span⟩) ∧
        t.reg = { s.reg with
          trim := t.reg.trim, inForce := t.reg.inForce, trimClass := some f.sizeClass, matchCount := 0, missCount := 0
          lock := if s.reg.holdoff = 0 then .search else .holdoff } ∧
        (s.rif.tx ≠ .idle → t.rif.outbound = s.rif.outbound ++
          [.trim s.settings.feedNode t.reg.trim, .drive s.settings.driveNode .run]) ∧
        (s.rif.tx ≠ .idle → 2 ≤ s.rif.freePlaces → t.rif.management = s.rif.management ++
          [.notice s.settings.noticeAddress (.lineState .run .idle .none .known s.pitch),
            .response ⟨src, 13, tag, .accepted, 1, true, [1, BitVec.ofNat 8 f.sizeClass, 0]⟩])

/-- LINE_STOP: absorbed with ACCEPTED outside RUN; in RUN the line runs out with reason REQUEST, and with an empty tracking
queue the run-out completes at once: every active OFF issued, the lock OFF, DRIVE STOP last, IDLE (R147, R148, R149, R91,
R52). That the OFFs go in ascending channel is the model's choice (log 21). -/
def Obligations.LineStopRunsOut : Prop :=
  ∀ (src tag : Byte) (s : State), s.Takes src 1 → s.Settled →
    let run := exec (.lineStop src tag) s
    (s.sup.line ≠ .run →
      run = .next (s.answered src 14 tag (.one .accepted [BitVec.ofNat 8 s.sup.line.code]))) ∧
    (s.sup.line = .run → s.trq.queue ≠ [] → ∃ t, run = .next t ∧
      t = { s with sup := { s.sup with line := .runout, reason := .request, counters := t.sup.counters }, rif := t.rif } ∧
      (s.rif.tx ≠ .idle → t.rif.outbound = s.rif.outbound ∧
        (2 ≤ s.rif.freePlaces → t.rif.management = s.rif.management ++
          [.notice s.settings.noticeAddress (.lineState .runout .run .request s.pos.state s.pitch),
            .response ⟨src, 14, tag, .accepted, 1, true, [2]⟩]))) ∧
    (s.sup.line = .run → s.trq.queue = [] → s.rif.outbound.length ≤ 39 → ∃ t, run = .next t ∧
      t = { s with
        sup := { s.sup with line := .idle, reason := .request, counters := t.sup.counters }, cam := t.cam, rif := t.rif
        reg := { s.reg with lock := .off, matchCount := 0, missCount := 0 } } ∧
      (∀ c, t.camChannel c = { s.camChannel c with
        activeOff := none, merges := 0
        level := if (s.camChannel c).activeOff.isSome then .off else (s.camChannel c).level }) ∧
      (s.rif.tx ≠ .idle → t.rif.outbound = s.rif.outbound ++
        ((List.finRange 24).filterMap fun c => (s.camChannel c).activeOff.map fun a =>
          OutFrame.output (s.channel c).node (s.channel c).point false false c (s.nodeCount (s.offFiring c a))
            (a.serial % 65536)) ++ [.drive s.settings.driveNode .stop]))

/-- A halt empties the outbound queue, places DRIVE HALT first and then the safe-state frames in ascending channel, clears
every schedule, active OFF and merge count, sets the levels, moves the lock OFF and keeps the records, lots, checks and
position; in SAFE it is absorbed (R150, R151, R90, R52, R66). -/
def Obligations.LineHaltEntersSafe : Prop :=
  ∀ (src tag : Byte) (s : State), s.Takes src 1 → s.Settled →
    let run := exec (.lineHalt src tag) s
    let driven := fun c => (s.channel c).source ≠ .disabled
    (s.sup.line = .safe → run = .next (s.answered src 15 tag (.one .accepted [3]))) ∧
    (s.sup.line ≠ .safe → ∃ t, run = .next t ∧
      t = { s with
        sup := { s.sup with line := .safe, reason := .request, counters := t.sup.counters }, cam := t.cam, rif := t.rif
        reg := { s.reg with lock := .off, matchCount := 0, missCount := 0 } } ∧
      (∀ c, (t.camChannel c).schedule = [] ∧ (t.camChannel c).activeOff = none ∧ (t.camChannel c).merges = 0 ∧
        (driven c → (s.channel c).safeState = .off → (t.camChannel c).level = .off) ∧
        (driven c → (s.channel c).safeState = .on → (t.camChannel c).level = .on) ∧
        (¬driven c ∨ (s.channel c).safeState = .hold → (t.camChannel c).level = (s.camChannel c).level)) ∧
      (s.rif.tx ≠ .idle →
        t.rif.outbound = .drive s.settings.driveNode .halt :: ((List.finRange 24).filter fun c =>
          (s.channel c).source != .disabled && (s.channel c).safeState != .hold).map fun c =>
            OutFrame.output (s.channel c).node (s.channel c).point ((s.channel c).safeState == .on) true c
              (s.pos.lastCount % 65536) 0) ∧
      (s.rif.tx ≠ .idle → 2 ≤ s.rif.freePlaces → t.rif.management = s.rif.management ++
        [.notice s.settings.noticeAddress (.lineState .safe s.sup.line .request s.pos.state s.pitch),
          .response ⟨src, 15, tag, .accepted, 1, true, [3]⟩]))

/-- LINE_CLEAR: refused outside SAFE; in SAFE the queue is purged, every lot is set back to its delivery point, every
CLOSED lot ends, in table order, and the make-up lots they make stand behind the CUTTING lot and ahead of the other QUEUED
lots in the order of their parents, and the line is IDLE with its reason kept. Channels, positions, formats and outbound frames stay (R152,
R67, R126, R140, R142). -/
def Obligations.LineClearPurges : Prop :=
  ∀ (src tag : Byte) (s : State), s.Takes src 1 → s.Settled →
    let run := exec (.lineClear src tag) s
    (s.sup.line ≠ .safe → run = .next (s.answered src 16 tag (.plain .badState))) ∧
    (s.sup.line = .safe → ∃ t, run = .next t ∧ t.sup.line = .idle ∧ t.sup.reason = s.sup.reason ∧
      t.trq = ⟨[], s.trq.serial⟩ ∧ t.pos = s.pos ∧ t.store = s.store ∧ t.cam = s.cam ∧
      (∀ m, m ∈ t.reg.marks ↔ m ∈ s.reg.marks ∧ ∀ r ∈ s.trq.queue, r.serial ≠ m.serial) ∧
      t.reg = { s.reg with marks := t.reg.marks, openCandidate := t.reg.openCandidate } ∧
      (∀ i, t.chkInput i = { s.chkInput i with
        pending := (s.chkInput i).pending.filter fun p => s.trq.queue.all fun r => r.serial != p.serial }) ∧
      (s.rif.tx ≠ .idle → t.rif.outbound = s.rif.outbound) ∧
      (s.LotsOrdered → s.FlightsCounted →
        (∀ l ∈ t.lot.table, l.state ≠ .closed) ∧
        (∀ l ∈ s.lot.table, l.state ≠ .closed → l.purged + l.inFlight < 4294967296 →
          let good := s.trq.queue.countP fun r => r.lot == l.key && r.final == some .good
          { l with
            inFlight := 0, purged := l.purged + l.inFlight, finalGood := l.finalGood - good
            openBatch := if l.delivered = 0 then none else some (l.completed + 1, l.delivered)
            nextBatch := if l.delivered = 0 then l.completed + 1 else l.completed + 2 } ∈ t.lot.table) ∧
        (∃ parents : List Lot, parents.Sublist (s.lot.table.filter fun l => l.state == .closed) ∧
          (∀ l ∈ parents, l.makeUp = true ∧ l.stacked < l.target) ∧
          t.lot.table.map Lot.key = ((s.lot.table.filter fun l => l.state == .cutting).map Lot.key) ++
            (parents.map fun l => ⟨l.key.id, min 15 (l.key.makeUp + 1)⟩) ++
            (s.lot.table.filter fun l => l.state == .queued).map Lot.key ∧
          ∀ l ∈ parents, ⟨⟨l.key.id, min 15 (l.key.makeUp + 1)⟩, l.format, l.target - l.stacked, l.batchSize, true, .queued,
            0, 0, 0, 0, 0, 0, 0, none, 1, 0, 0, false⟩ ∈ t.lot.table) ∧
        (s.rif.tx ≠ .idle → ∃ notices, t.rif.management = s.rif.management ++ notices ++
          [.response ⟨src, 16, tag, .accepted, 1, true,
            [BitVec.ofNat 8 s.trq.queue.length,
              BitVec.ofNat 8 (s.lot.table.countP fun l => l.state == .closed)]⟩])))

/-- LINE_RESET: refused in RUN and RUNOUT; in IDLE and SAFE the lots, box queue, running class, records, schedules, active
OFFs, checks and the registration's LINE_RESET values are emptied without notices of theirs, a TRIM of 0 and a LINE_STATE
notice are placed, and the line is IDLE with reason NONE; formats, position, channel levels, pulses, the fault log, the
counters but NOTICES_DROPPED, the latched flags and the serial stay (R153, R36, R71, R93, R47). -/
def Obligations.LineResetEmptiesTheBlocks : Prop :=
  ∀ (src tag : Byte) (s : State), s.Takes src 1 → s.Settled →
    let run := exec (.lineReset src tag) s
    (s.running = true → run = .next (s.answered src 17 tag (.plain .badState))) ∧
    (s.running = false → s.rif.outbound.length < 64 → ∃ t, run = .next t ∧ t.sup.line = .idle ∧ t.sup.reason = .none ∧
      t.sup = { s.sup with line := .idle, reason := .none, counters := t.sup.counters } ∧
      (∀ c, c ≠ ctrNoticesDropped → t.sup.counters.get c = s.sup.counters.get c) ∧
      t.lot = ⟨[], none, []⟩ ∧ t.trq = ⟨[], s.trq.serial⟩ ∧ t.pos = s.pos ∧ t.store = s.store ∧
      (∀ c, t.camChannel c = ⟨[], none, (s.camChannel c).level, 0⟩) ∧
      (∀ i, t.chkInput i = ⟨(s.chkInput i).pulse, [], none, 0⟩) ∧
      t.reg = ⟨.off, 0, 0, 0, 0, 0, none, none, s.reg.lost, [], t.reg.openCandidate⟩ ∧
      t.rif.linkDownFlag = s.rif.linkDownFlag ∧
      (s.rif.tx ≠ .idle → t.rif.outbound = s.rif.outbound ++ [.trim s.settings.feedNode 0] ∧
        (2 ≤ s.rif.freePlaces → t.rif.management = s.rif.management ++
          [.notice s.settings.noticeAddress (.lineState .idle s.sup.line .none s.pos.state s.pitch),
            .response ⟨src, 17, tag, .accepted, 1, true, []⟩])))

/-- MANUAL_SET by the four tests of R88 in their order: refused without effect, or an immediate OUTPUT frame with the node
count of the raw position, and the channel's level the one sent. That the level byte means OFF by 0 and ON by 1 is the
model's choice (log 37). -/
def Obligations.ManualSetByTheTests : Prop :=
  ∀ (src tag channel level : Byte) (s : State), s.Takes src 1 → s.Settled →
    let run := exec (.manualSet src tag channel level) s
    let answer := fun (t : State) (r : Reply) => Host.Outcome.next (φ := Fault) (ρ := Refusal) (t.answered src 18 tag r)
    (s.sup.line ≠ .idle → run = answer s (.plain .badState)) ∧
    (s.sup.line = .idle → 24 ≤ channel.toNat → run = answer s (.plain .unknownId)) ∧
    ∀ c : Fin 24, s.sup.line = .idle → channel.toNat = c.val →
      (1 < level.toNat ∨ (s.channel c).source ≠ .manual → run = answer s (.plain .badValue)) ∧
      (level.toNat ≤ 1 → (s.channel c).source = .manual → s.rif.outbound.length < 64 → ∃ t,
        run = answer t (.plain .accepted) ∧ t.camChannel c = { s.camChannel c with level := if level = 1 then .on else .off } ∧
        (∀ d, d ≠ c → t.camChannel d = s.camChannel d) ∧
        t = { s with
          cam := t.cam
          rif := s.heard.rif.pushOutbound (.output (s.channel c).node (s.channel c).point (level == 1) true c
            (s.pos.lastCount % 65536) 0) })

/-- Which commands move the line (R145): RUN is entered only from IDLE by a LINE_START, SAFE is left only by LINE_CLEAR,
LINE_RESET or a reset, RUNOUT goes only to IDLE or SAFE, and IDLE never goes to RUNOUT. -/
def Obligations.LineMovesByTheTransitions : Prop :=
  ∀ (i : Instr) (s t : State), s.Settled → exec i s = .next t →
    (t.sup.line = .run → s.sup.line = .run ∨
      (s.sup.line = .idle ∧ s.pos.state = .known ∧ (∃ l ∈ s.lot.table, l.state ≠ .closed) ∧
        ∃ src tag, carried s.rif.own i = some (.lineStart src tag))) ∧
    (s.sup.line = .safe → t.sup.line = .safe ∨ (t.sup.line = .idle ∧
      ((∃ strap, i = .powerOnReset strap) ∨ (∃ src tag, carried s.rif.own i = some (.lineClear src tag)) ∨
        ∃ src tag, carried s.rif.own i = some (.lineReset src tag)))) ∧
    (t.sup.line = .runout → s.sup.line = .run ∨ s.sup.line = .runout)

/-! ### Faults -/

/-- A fault takes the next sequence, is stored in a log with room and else counted as overflow, is noticed in a free,
unreserved place or its notice counted, and its effect then acts on the line: NONE nothing, STOP a run-out of RUN with the
fault as reason, SAFE a halt outside SAFE (R157, R159, R160, R167, R175). -/
def Obligations.RaisingAFaultByItsSteps : Prop :=
  ∀ (kind : FaultKind) (effect : Effect) (detail : Detail) (s : State),
    let t := s.raise kind effect detail
    let more := s.sup.lastSequence ≠ 4294967295
    let stored := more ∧ s.sup.log.length < 16
    let q := if more then s.sup.lastSequence + 1 else s.sup.lastSequence
    let record : FaultRecord := ⟨q, kind, effect, s.sup.line, s.pitch, detail⟩
    t = { s with sup := t.sup, rif := t.rif } ∧ t.sup.lastSequence = q ∧ t.sup.line = s.sup.line ∧
      (stored → t.sup.log = s.sup.log ++ [record] ∧ t.sup.overflow = s.sup.overflow) ∧
      (¬stored → t.sup.log = s.sup.log ∧ t.sup.overflow = min 255 (s.sup.overflow + 1)) ∧
      (s.rif.management.length + s.rif.reserved < 16 → t.sup.counters = s.sup.counters ∧
        (s.rif.tx ≠ .idle → t.rif = { s.rif with management := s.rif.management ++
          [.notice s.settings.noticeAddress (.fault record (decide stored))] })) ∧
      (16 ≤ s.rif.management.length + s.rif.reserved → t.rif = s.rif ∧
        t.sup.counters = s.sup.counters.set ctrNoticesDropped (saturate (s.sup.counters.get ctrNoticesDropped))) ∧
      (s.Settled →
        (effect = .none → t.settle.sup.line = s.sup.line ∧ t.settle.sup.reason = s.sup.reason) ∧
        (effect = .safe → s.sup.line ≠ .safe → t.settle.sup.line = .safe ∧ t.settle.sup.reason = .fault q) ∧
        (effect = .safe → s.sup.line = .safe → t.settle.sup.reason = s.sup.reason ∧ t.settle.sup.line = .safe) ∧
        (effect = .stop → s.sup.line = .run → s.trq.queue ≠ [] →
          t.settle.sup.line = .runout ∧ t.settle.sup.reason = .fault q) ∧
        (effect = .stop → s.sup.line ≠ .run → t.settle.sup.line = s.sup.line ∧ t.settle.sup.reason = s.sup.reason))

/-! ### Registration -/

/-- What a mark decision does to the lock (R42, R43, R44), and a splice pulse (R49), with settings in force. A mark is good
where its error is at most the lock window. -/
def Obligations.LockMovesByTheDecision : Prop :=
  ∀ (f : RegSettings) (error : Option Int) (s : State), s.reg.inForce = some f →
    let good := ∃ e, error = some e ∧ -(f.lockWindow : Int) ≤ e ∧ e ≤ f.lockWindow
    let t := s.lockMark error
    let moved := fun (lock : LockState) (m miss : Nat) => { s with reg := { s.reg with
      lock := lock, matchCount := m, missCount := miss } }
    (s.reg.lock = .off → t = s) ∧
    (s.reg.lock = .holdoff → t = { s with reg := { s.reg with
      holdoff := s.reg.holdoff - 1, lock := if s.reg.holdoff ≤ 1 then .search else .holdoff } }) ∧
    (s.reg.lock = .search → (good → t = moved .acquire 1 s.reg.missCount) ∧ (¬good → t = s)) ∧
    (s.reg.lock = .acquire → (¬good → t = moved .search 0 s.reg.missCount) ∧
      (good → s.reg.matchCount ≠ 2 → t = moved .acquire (s.reg.matchCount + 1) s.reg.missCount) ∧
      (good → s.reg.matchCount = 2 → t = moved .locked 0 0)) ∧
    (s.reg.lock = .locked → error = none →
      (s.reg.missCount + 1 < f.lossLimit → t = moved .locked s.reg.matchCount (s.reg.missCount + 1)) ∧
      (f.lossLimit ≤ s.reg.missCount + 1 →
        t = { s with reg := { s.reg with lock := .search, missCount := 0, lost := true } }.raise .regLost .none
          (.number f.lossLimit))) ∧
    (s.reg.lock ≠ .off → s.splicePulse = { s with reg := { s.reg with
      holdoff := f.holdoff, span := f.span, matchCount := 0, missCount := 0
      lock := if f.holdoff = 0 then .search else .holdoff } }) ∧
    (s.reg.lock = .off → s.splicePulse = s)

/-- A correction in LOCKED (R43, R46, R47, R48): the step is the error times the gain over 16, rounded with halves away from
zero and held by the step max; the new trim is held by the trim max; a changed trim is sent whole to the feed drive, and
one that arrives at a limit above 0 raises TRIM_LIMIT with effect NONE. -/
def Obligations.TrimFollowsTheError : Prop :=
  ∀ (f : RegSettings) (e : Int) (s : State), s.reg.inForce = some f → s.reg.lock = .locked →
    s.rif.outbound.length < 64 → s.rif.tx ≠ .idle →
    ∃ round : Int,
      (round.natAbs * 16 ≤ (e * f.gain).natAbs + 8 ∧ (e * f.gain).natAbs + 8 < (round.natAbs + 1) * 16) ∧
      (0 ≤ e * f.gain → 0 ≤ round) ∧ (e * f.gain ≤ 0 → round ≤ 0) ∧
      let step : Int := max (-f.stepMax) (min f.stepMax round)
      let trim : Int := max (-f.trimMax) (min f.trimMax (s.reg.trim - step))
      let sent := { s with
        reg := { s.reg with missCount := 0, trim := trim }
        rif := { s.rif with outbound := s.rif.outbound ++ [.trim s.settings.feedNode trim] } }
      (trim = s.reg.trim → s.lockMark (some e) = { s with reg := { s.reg with missCount := 0 } }) ∧
      (trim ≠ s.reg.trim → (0 < f.trimMax ∧ (trim = f.trimMax ∨ trim = -(f.trimMax : Int))) →
        s.lockMark (some e) = sent.raise .trimLimit .none (.number trim)) ∧
      (trim ≠ s.reg.trim → ¬(0 < f.trimMax ∧ (trim = f.trimMax ∨ trim = -(f.trimMax : Int))) →
        s.lockMark (some e) = sent)

/-! ### Blanks -/

/-- A write that carries a defect reason (R59, R60, R62): a record that has left or is frozen keeps its state and
DEFECTS_AFTER_FINAL is counted; else the reason joins the set, is counted once for the record, and no other reason, field
or record changes. -/
def Obligations.DefectIsAddedOnceOrCounted : Prop :=
  ∀ (serial : Nat) (reason : Reason) (s : State),
    let t := s.addDefect serial reason
    let bumped := fun c : Fin 38 => s.sup.counters.set c (saturate (s.sup.counters.get c))
    ((∀ r ∈ s.trq.queue, r.serial = serial → r.final.isSome = true) →
      t = { s with sup := { s.sup with counters := bumped ctrDefectsAfterFinal } }) ∧
    ∀ before r after, s.trq.queue = before ++ r :: after → r.serial = serial → r.final = none →
      (∀ x ∈ before ++ after, x.serial ≠ serial) →
      ∃ r', t.trq = { s.trq with queue := before ++ r' :: after } ∧ r' = { r with defects := r'.defects } ∧
        r'.defects.has reason = true ∧ (∀ q, q ≠ reason → r'.defects.has q = r.defects.has q) ∧ r'.reject = true ∧
        t = { s with trq := t.trq, sup := { s.sup with
          counters := if r.defects.has reason then s.sup.counters else bumped (ctrReason reason) } }

/-- The final point of a record (R114 to R117): GOOD takes the next slot of its lot's open batch, opening one with the next
number where there is none, and ends the batch at the batch size, at the target, or as the CLOSED lot's last unsettled
record; a reject takes no slot, and ends an open batch unmarked where it is the CLOSED lot's last unsettled record; the
gate's rest adds REST and raises UNDIVERTED_REJECT with effect STOP. Which of the three it is, the gate decides (R84): GOOD
and no fire for a record that is no reject; for a reject DIVERTED and fire, but UNDIVERTED, with the window dropped and the
active OFF issued, where the window would merge and the merge count has reached the hold max. Whether CAM or LOT goes first
is left open (log 4). -/
def Obligations.FinalPointSettlesTheBlank : Prop :=
  (∀ (c : Fin 24) (w : Window) (on off : Nat) (before after : List Record) (r : Record) (s : State),
    s.trq.queue = before ++ r :: after → r.serial = w.serial → (∀ x ∈ before ++ after, x.serial ≠ w.serial) →
    let t := s.gateDue c w on off
    let taken := { s with free := s.free + 1 }
    let either := fun (f g : State → State) => t = g (f taken) ∨ t = f (g taken)
    let rests := ∃ a, (s.camChannel c).activeOff = some a ∧
      s.onFiring c w.target on ≤ s.offFiring c a + (s.channel c).mergeGap ∧
      (s.channel c).holdMax ≤ (s.camChannel c).merges
    (r.reject = false → either (State.noFire c) (State.settleGood r)) ∧
    (r.reject = true → ¬rests → either (State.fire c w on off) (State.settleDiverted r)) ∧
    ∀ a, r.reject = true → rests → (s.camChannel c).activeOff = some a →
      either (fun x => ({ x with cam := x.cam.set c { x.cam.get c with schedule := (x.cam.get c).schedule.tail } }).issueOff c a)
        (State.settleUndiverted r)) ∧
  ∀ (before after : List Record) (r : Record) (front back : List Lot) (l : Lot) (s : State),
    s.trq.queue = before ++ r :: after → (∀ x ∈ before ++ after, x.serial ≠ r.serial) →
    s.lot.table = front ++ l :: back → l.key = r.lot → (∀ x ∈ front ++ back, x.key ≠ l.key) →
    let last := l.state = .closed ∧ ∀ x ∈ before ++ after, x.lot = r.lot → x.final.isSome = true
    let batch := match l.openBatch with | some b => b | none => (l.nextBatch, 0)
    let ends := l.batchSize ≤ batch.2 + 1 ∨ l.target ≤ l.finalGood + 1 ∨ last
    let written := fun (r' : Record) (l' : Lot) =>
      { s with
        trq := { s.trq with queue := before ++ r' :: after }
        lot := { s.lot with table := front ++ l' :: back } }
    let unmarked := last ∧ l.openBatch.isSome = true
    (∃ r' l', s.settleGood r = written r' l' ∧
      r' = { r with final := some .good, slot := r'.slot } ∧
      (∃ b, r'.slot = some ⟨batch.1, batch.2 + 1, b⟩ ∧ (b = true ↔ ends)) ∧
      l' = { l with
        finalGood := l.finalGood + 1, openBatch := l'.openBatch
        nextBatch := if l.openBatch.isSome then l.nextBatch else l.nextBatch + 1 } ∧
      (ends → l'.openBatch = none) ∧ (¬ends → l'.openBatch = some (batch.1, batch.2 + 1))) ∧
    (∃ r' l', s.settleDiverted r = written r' l' ∧ r' = { r with final := some .diverted, unmarkedEnd := r'.unmarkedEnd } ∧
      (r'.unmarkedEnd = true ↔ unmarked) ∧ l' = { l with openBatch := l'.openBatch } ∧
      (unmarked → l'.openBatch = none) ∧ (¬unmarked → l'.openBatch = l.openBatch)) ∧
    ∃ r' l' counted, s.settleUndiverted r = State.raise .undivertedReject .stop (.key r.lot)
        { written r' l' with sup := { s.sup with counters := counted } } ∧
      r' = { r with
        final := some .undiverted, unmarkedEnd := r'.unmarkedEnd, defects := { r.defects with rest := true } } ∧
      (r'.unmarkedEnd = true ↔ unmarked) ∧ l' = { l with openBatch := l'.openBatch } ∧
      (unmarked → l'.openBatch = none) ∧ (¬unmarked → l'.openBatch = l.openBatch) ∧
      counted = if r.defects.rest then s.sup.counters
        else s.sup.counters.set (ctrReason .rest) (saturate (s.sup.counters.get (ctrReason .rest)))

/-! ### Lots, batches and boxes -/

/-- The cut decision of a pitch (R135 to R138) is taken on the advance that passes angle 1,792 of the pitch before it. Below
the cut minimum speed it does nothing; a CUTTING lot below its target is cut for, which adds one record of the lot's at the
tail with that birth pitch and the next serial and counts it cut and in flight; a CUTTING lot at its target closes, ends at
once with none in flight (R136, R139), and the decision goes on as without it; without a CUTTING lot the head QUEUED lot
is refused with its fault or its stop, and with no QUEUED lot the stop is LOTS_EXHAUSTED.
The point whose pitch would follow the last pitch number is left out: its pitch is a free value (log 36). A cut, for a CUTTING lot or for one just admitted, is R138's: the lot's cut and in-flight
counts go up (stated for a cut count below 2^32 − 1, log 6), TRQ appends the record it builds (R56, R57), and REG, whose poisoning is its first write, CAM and CHK each set
up their state for it. -/
def Obligations.CutDecisionByItsSteps : Prop :=
  (∀ previous new : Nat, previous < new → new ≤ previous + 1024 → new < 4294967295 * 4096 + 1792 → ∀ p : Nat,
    cutPitch previous new = some p ↔ 1 ≤ p ∧ previous < (p - 1) * 4096 + 1792 ∧ (p - 1) * 4096 + 1792 ≤ new) ∧
  (∀ (p : Nat) (s : State),
    let t := s.cutDecision p
    let serial := (s.trq.serial + 1) % 4294967296
    let record := fun l : Lot => (⟨serial, p, l.key, l.format, none, none, false,
      { markMissing := false, markUnreadable := false, regUnlocked := false, regError := false, splice := false
        check := false, rest := false }, [], [], none, none, false⟩ : Record)
    let cut := fun (front : List Lot) (l : Lot) (back : List Lot) =>
      let appended := { s with
        lot := { s.lot with
          table := front ++ { l with state := .cutting, cut := l.cut + 1, inFlight := l.inFlight + 1 } :: back }
        trq := ⟨s.trq.queue ++ [record l], serial⟩ }
      ((appended.regCreate (record l)).camCreate (record l)).chkCreate (record l)
    let slow := s.pos.v < s.settings.cutMinimum
    (slow → t = s) ∧
    (∀ l, ¬slow → s.LotsOrdered → l ∈ s.lot.table → l.state = .cutting → s.committed l < l.target →
      t.trq.serial = (s.trq.serial + 1) % 4294967296 ∧ t.sup.line = s.sup.line ∧
      (∃ rest r, t.trq.queue = rest ++ [r] ∧ rest.map Record.serial = s.trq.queue.map Record.serial ∧
        r.serial = t.trq.serial ∧ r.birth = p ∧ r.lot = l.key ∧ r.format = l.format) ∧
      (t.lot.table.map Lot.key = s.lot.table.map Lot.key) ∧
      ∃ l' ∈ t.lot.table, l'.key = l.key ∧ l'.state = .cutting ∧ (l.cut < 4294967295 → l'.cut = l.cut + 1) ∧
        l'.inFlight = l.inFlight + 1) ∧
    (∀ front l back, ¬slow → s.lot.table = front ++ l :: back →
      (∀ x ∈ front ++ back, x.key ≠ l.key ∧ x.state ≠ .cutting) →
      l.state = .cutting → s.committed l < l.target → l.cut < 4294967295 → t = cut front l back) ∧
    (∀ front l back, ¬slow → s.lot.table = front ++ l :: back →
      (∀ x ∈ front ++ back, x.key ≠ l.key ∧ x.state ≠ .cutting) →
      l.state = .cutting → l.target ≤ s.committed l →
      let closed := { s with lot := { s.lot with table := front ++ { l with state := .closed } :: back } }
      (l.inFlight ≠ 0 → t = closed.cutDecision p) ∧ (l.inFlight = 0 → t = (closed.endLot l.key 0).1.cutDecision p)) ∧
    (¬slow → (∀ l ∈ s.lot.table, l.state = .closed) → t = s.defer (.stop .lotsExhausted)) ∧
    ∀ before l after, ¬slow → s.lot.table = before ++ l :: after → (∀ x ∈ before, x.state = .closed) →
      l.state = .queued → (∀ x ∈ after, x.state ≠ .cutting) →
      let f := s.format l.format
      let needed := fun c : Fin 24 => f.required.getLsbD c.val = true ∨
        (s.channel c).function = .knife ∨ (s.channel c).function = .gate ∨ (s.channel c).function = .finger
      let missing := fun c : Fin 24 => needed c ∧ (s.channel c).source ≠ .cam
      let sound := f.state = .valid ∧ f.contentSum (l.format.val + 1) = f.storedSum
      (f.state ≠ .valid → t = s.raise .formatInvalid .stop (.key l.key)) ∧
      (f.state = .valid → f.contentSum (l.format.val + 1) ≠ f.storedSum →
        t = (s.setFormat l.format fun x => { x with state := .invalid }).raise .formatCheck .stop (.key l.key)) ∧
      (∀ c, sound → missing c → (∀ d < c, ¬missing d) → t = s.raise .stationMissing .stop (.number c.val)) ∧
      (sound → (∀ c, ¬missing c) → s.lot.runClass ≠ some f.sizeClass → t = s.defer (.stop .changeover)) ∧
      (sound → (∀ c, ¬missing c) → s.lot.runClass = some f.sizeClass →
        t.trq.serial = (s.trq.serial + 1) % 4294967296 ∧ t.trq.queue.length = s.trq.queue.length + 1 ∧
        (∃ l' ∈ t.lot.table, l'.key = l.key ∧ l'.state = .cutting) ∧
        ((∀ x ∈ before ++ after, x.key ≠ l.key) → l.cut < 4294967295 → t = cut before l after)))

/-- A completed batch (R120, R121, R124): the lot's batch state moves on, and the batch joins a box queue with room, or
against two entries is lost with BOX_OVERFLOW, effect SAFE, raised ahead of its BATCH_DONE notice.
The head record is retired on the advance that reaches (b + s + 1) × 4,096, in RUN and RUNOUT: it is handed to its lot
and leaves the queue, and in RUNOUT an empty queue completes the run-out: IDLE with its reason kept, every active OFF
issued, the lock OFF, DRIVE STOP last (R64, R91, R149, R52); that the completion comes ahead of the halt of a BOX_OVERFLOW
raised in the same retirement is the model's reading (log 19). A retirement hands the record to its lot (R118, R119, R121,
R123), whose diverted and undiverted counts are below 2^32 − 1: one less in flight, a GOOD record stacked and delivered, a
DIVERTED or UNDIVERTED one counted and the latter marking the delivery batch; the box deadlines move, and each that comes to
0 raises BOX_LATE with effect STOP and its batch's lot key, two of them in an order left open (log 38); a batch end or
unmarked end completes the delivery batch; and the retirement that leaves a CLOSED lot none in flight ends the lot (R139).
A box-taken pulse removes the head of the box queue or, with none, counts BOX_SPURIOUS (R125). -/
def Obligations.RetirementAndBoxTaking : Prop :=
  (∀ (front back : List Lot) (l : Lot) (unmarkedEnd : Bool) (s : State), s.lot.table = front ++ l :: back →
    (∀ x ∈ front ++ back, x.key ≠ l.key) →
    let batch : Batch := ⟨l.key, l.completed + 1, l.delivered, l.contaminated, unmarkedEnd,
      decide (l.delivered < l.batchSize)⟩
    let moved := fun boxes : List BoxEntry => { s with lot := { s.lot with
      boxes := boxes
      table := front ++ { l with completed := l.completed + 1, delivered := 0, contaminated := false } :: back } }
    (s.lot.boxes.length < 2 → s.completeBatch l.key unmarkedEnd =
      (moved (s.lot.boxes ++ [⟨batch, s.settings.boxDeadline⟩])).notice (.batchDone batch true (s.lot.boxes.length + 1))) ∧
    (2 ≤ s.lot.boxes.length → s.completeBatch l.key unmarkedEnd =
      ((moved s.lot.boxes).raise .boxOverflow .safe (.key l.key)).notice (.batchDone batch false s.lot.boxes.length))) ∧
  (∀ (r : Record) (front back : List Lot) (l : Lot) (s : State), s.lot.table = front ++ l :: back → l.key = r.lot →
    (∀ x ∈ front ++ back, x.key ≠ l.key) → l.diverted < 4294967295 → l.undiverted < 4294967295 →
    let stacked := if r.final = some .good then 1 else 0
    let completes := r.batchEnd = true ∨ r.unmarkedEnd = true
    let late := s.lot.boxes.filter fun e => e.deadline == 1
    let counted := { s with
      lot := { s.lot with
        boxes := s.lot.boxes.map fun e => { e with deadline := e.deadline - 1 }
        table := front ++ { l with
          inFlight := l.inFlight - 1, stacked := l.stacked + stacked, delivered := l.delivered + stacked
          diverted := l.diverted + if r.final = some .diverted then 1 else 0
          undiverted := l.undiverted + if r.final = some .undiverted then 1 else 0
          contaminated := l.contaminated || r.final == some .undiverted } :: back }
      free := if 2 ≤ late.length then s.free + 1 else s.free }
    ∃ (order : List BoxEntry) (aged u : State), order.Perm late ∧
      aged = order.foldl (fun x e => x.raise .boxLate .stop (.key e.batch.key)) counted ∧
      (completes → u = aged.completeBatch l.key (!r.batchEnd)) ∧ (¬completes → u = aged) ∧
      (l.state ≠ .closed ∨ 1 < l.inFlight → s.retireLot r = u) ∧
      (l.state = .closed → l.inFlight ≤ 1 → s.retireLot r = (u.endLot l.key 0).1)) ∧
  (∀ (previous new : Nat) (s : State),
    let t := s.trqAdvance previous new
    (s.running = false ∨ s.trq.queue = [] → t = s) ∧
    ∀ r rest, s.running = true → s.trq.queue = r :: rest →
      let position := (r.birth + s.settings.deliveryOffset + 1) * 4096
      let left := { s.retireLot r with trq := { s.trq with queue := rest } }
      (¬(previous < position ∧ position ≤ new) → t = s) ∧
      (previous < position → position ≤ new → rest ≠ [] ∨ s.sup.line = .run → t = left) ∧
      (previous < position → position ≤ new → rest = [] → s.sup.line = .runout →
        t.sup.line = .idle ∧ t.sup.reason = s.sup.reason ∧ t.trq = { s.trq with queue := [] } ∧ t.lot = left.lot ∧
        t.pos = s.pos ∧ t.store = s.store ∧ t.chk = s.chk ∧
        t.reg = { s.reg with lock := .off, matchCount := 0, missCount := 0 } ∧
        (∀ c, t.camChannel c = { s.camChannel c with
          activeOff := none, merges := 0
          level := if (s.camChannel c).activeOff.isSome then .off else (s.camChannel c).level }) ∧
        (s.rif.tx ≠ .idle → s.rif.outbound.length ≤ 39 → ∃ offs, t.rif.outbound = s.rif.outbound ++ offs ++
          [.drive s.settings.driveNode .stop] ∧
          offs.Perm ((List.finRange 24).filterMap fun c => (s.camChannel c).activeOff.map fun a =>
            OutFrame.output (s.channel c).node (s.channel c).point false false c (s.nodeCount (s.offFiring c a))
              (a.serial % 65536))))) ∧
  (∀ s : State,
    (∀ e rest, s.lot.boxes = e :: rest → s.boxTaken = { s with lot := { s.lot with boxes := rest } }) ∧
    (s.lot.boxes = [] → s.boxTaken = { s with sup := { s.sup with
      counters := s.sup.counters.set ctrBoxSpurious (saturate (s.sup.counters.get ctrBoxSpurious)) } }))

/-- A lot's end by its make-up outcome (R122, R139, R140): the first condition that holds decides, and only MADE puts a new
QUEUED lot into the table, with the shortfall as target and the next make-up number up to 15, ahead of the other QUEUED
lots but behind as many of them as the same purge has made before (R140; LINE_CLEAR says which those are); the ended lot
leaves. A lot with a delivery batch begun or contaminated completes it first, unmarked (R122). -/
def Obligations.LotEndMakesUpTheShortfall : Prop :=
  ∀ (made : Nat) (front back : List Lot) (l : Lot) (s : State), s.lot.table = front ++ l :: back →
    (∀ x ∈ front ++ back, x.key ≠ l.key) →
    (0 < l.delivered ∨ l.contaminated = true → s.endLot l.key made = (s.completeBatch l.key true).endLot l.key made) ∧
    (l.delivered = 0 → l.contaminated = false → s.rif.tx ≠ .idle → s.rif.management.length + s.rif.reserved < 16 →
    let shortfall := l.target - l.stacked
    let key : LotKey := ⟨l.key.id, min 15 (l.key.makeUp + 1)⟩
    let taken := ∃ x ∈ front ++ back, x.key = key
    let full := 8 ≤ s.lot.table.length
    let closes := fun (outcome : MakeUp) (child : Option LotKey) (table : List Lot) =>
      s.endLot l.key made = ({ s with
        lot := { s.lot with table := table }
        rif := { s.rif with management := s.rif.management ++ [.notice s.settings.noticeAddress
          (.lotDone ⟨l.key, l.format, l.target, l.batchSize, l.cut, l.stacked, l.diverted, l.undiverted, l.purged,
            l.completed, shortfall, outcome, child⟩)] } }, child.isSome)
    (shortfall = 0 → closes .notNeeded none (front ++ back)) ∧
    (shortfall ≠ 0 → l.makeUp = false → closes .disabled none (front ++ back)) ∧
    (shortfall ≠ 0 → l.makeUp = true → full → closes .tableFull none (front ++ back)) ∧
    (shortfall ≠ 0 → l.makeUp = true → ¬full → taken → closes .keyTaken none (front ++ back)) ∧
    (shortfall ≠ 0 → l.makeUp = true → ¬full → ¬taken →
      ∀ ahead earlier behind, front ++ back = ahead ++ earlier ++ behind → (∀ x ∈ ahead, x.state ≠ .queued) →
        (∀ x ∈ earlier, x.state = .queued) → earlier.length ≤ made → (behind ≠ [] → earlier.length = made) →
        (∀ x ∈ behind.head?, x.state = .queued) →
        closes .made (some key) (ahead ++ earlier ++
          ⟨key, l.format, shortfall, l.batchSize, true, .queued, 0, 0, 0, 0, 0, 0, 0, none, 1, 0, 0, false⟩ :: behind)))

/-! ### Actuation and checks -/

/-- What CAM schedules and how an edge that comes due is taken. Creation: a channel with source CAM that some present program
has a window for receives one at the tail of its schedule, SCHEDULED where every present program has the same entry and the
channel's policy or function fires always, else HELD (R72). Resolution: each HELD window of the record takes the angles of
the selected program, variant 0's as the fallback, or is dropped (R73). Either way the steps of R78 are then applied once to
the channels of those windows (R78; their order is the model's, log 22). The steps on one channel: a SCHEDULED head whose ON
is due, else an active OFF that is not held and due (R76, R77, R78). The ON edge by function: KNIFE, FOLD and FIRE_ALWAYS
fire; SKIP_REJECT is suppressed for a reject, its channel listed in a record that is not settled (R79, R62); the FINGER
fires for a batch end alone (R85); the GATE's is stated at the final point. -/
def Obligations.WindowsAreScheduledAndTaken : Prop :=
  (∀ (r : Record) (s : State),
    let f := s.format r.format
    let present := fun v => (f.program v).windows ≠ [] ∨ (f.program v).checks ≠ []
    let receives := fun c => (s.channel c).source = .cam ∧ ∃ v, ((f.program v).window? c).isSome = true
    let always := fun c => (s.channel c).policy = .fireAlways ∨ (s.channel c).function = .knife ∨
      (s.channel c).function = .fold ∨ (s.channel c).function = .gate ∨ (s.channel c).function = .finger
    ∃ (u : State) (tested : List (Fin 24)), s.camCreate r = tested.foldl State.testChannel u ∧ tested.Nodup ∧
      (∀ c, c ∈ tested ↔ receives c) ∧
      u = { s with cam := u.cam } ∧ (∀ c, ¬receives c → u.camChannel c = s.camChannel c) ∧
      ∀ c, receives c → ∃ angles, u.camChannel c = { s.camChannel c with
          schedule := (s.camChannel c).schedule ++ [⟨r.serial, r.birth, r.birth + (s.channel c).offset, angles⟩] } ∧
        ∀ on off, angles = some (on, off) ↔
          always c ∧ ∀ v, present v → (f.program v).window? c = some ⟨c, on, off⟩) ∧
  (∀ (r : Record) (s : State),
    let p := (s.format r.format).program (match r.variant with | some v => v | none => 0)
    ∃ (u : State) (tested : List (Fin 24)), s.camResolve r = tested.foldl State.testChannel u ∧ tested.Nodup ∧
      (∀ c, c ∈ tested ↔ ∃ w ∈ (s.camChannel c).schedule, w.serial = r.serial ∧ w.angles = none) ∧
      u = { s with cam := u.cam } ∧ ∀ c, u.camChannel c = { s.camChannel c with
        schedule := (s.camChannel c).schedule.filterMap fun w =>
          if w.serial = r.serial ∧ w.angles = none then (p.window? c).map fun e => { w with angles := some (e.on, e.off) }
          else some w }) ∧
  ∀ (c : Fin 24) (s : State),
    let lead := min 2047 ((s.pos.s * (s.channel c).delay + 500000) / 1000000)
    let onDue := fun w : Window => ∃ on off, w.angles = some (on, off) ∧
      (w.target * 4096 + on : Int) - lead - 256 ≤ s.pos.held
    let offDue := fun a : ActiveOff => max ((a.offPitch * 4096 + a.offAngle : Int) - lead) a.minOff - 256 ≤ s.pos.held
    (∀ w on off, (s.camChannel c).schedule.head? = some w → onDue w → w.angles = some (on, off) →
      s.camStep c = some (s.takeOn c w on off)) ∧
    ((∀ w ∈ (s.camChannel c).schedule.head?, ¬onDue w) →
      (∀ a, (s.camChannel c).activeOff = some a → a.held = false → offDue a → s.camStep c = some (s.takeOff c a)) ∧
      ((∀ a ∈ (s.camChannel c).activeOff, a.held = true ∨ ¬offDue a) → s.camStep c = none)) ∧
    ∀ (w : Window) (on off : Nat),
      let skips := (s.channel c).policy = .skipReject
      ((s.channel c).function = .knife ∨ (s.channel c).function = .fold →
        s.takeOn c w on off = s.fire c w on off) ∧
      ((s.channel c).function = .gum ∨ (s.channel c).function = .patch ∨ (s.channel c).function = .general →
        (¬skips → s.takeOn c w on off = s.fire c w on off) ∧
        ∀ before r after, skips → s.trq.queue = before ++ r :: after → r.serial = w.serial →
          (∀ x ∈ before ++ after, x.serial ≠ w.serial) →
          (r.reject = false → s.takeOn c w on off = s.fire c w on off) ∧
          (r.reject = true → s.takeOn c w on off = State.noFire c { s with trq := { s.trq with queue := before ++
            (if r.final = none ∧ c ∉ r.suppressed then { r with suppressed := r.suppressed ++ [c] } else r) :: after } })) ∧
      ((s.channel c).function = .finger → ∀ before r after, s.trq.queue = before ++ r :: after → r.serial = w.serial →
        (∀ x ∈ before ++ after, x.serial ≠ w.serial) →
        ((∃ x, r.slot = some x ∧ x.batchEnd = true) → s.takeOn c w on off = s.fire c w on off) ∧
        ((¬∃ x, r.slot = some x ∧ x.batchEnd = true) → s.takeOn c w on off = State.noFire c s)) ∧
      ((s.channel c).function = .gate → s.takeOn c w on off = s.gateDue c w on off)

/-- The issue of an ON edge (R75 to R77, R80, R83, R87): a timed OUTPUT frame with the node count of the firing position at
the rounded and held lead, the window off the schedule, level ON, an active OFF with its minimum off position, and the
counters of a clamped lead and of a late command. The issue of an OFF (R81), with DWELL_EXTENDS where the minimum off
position decides. An OFF that comes due is held while the head window is SCHEDULED within the merge gap, else issued (R81).
A window that fires is issued with no active OFF, merged where its ON lies within the merge gap of the OFF, else issued
behind the OFF; one that does not fire leaves the schedule and lets a held OFF go (R82). -/
def Obligations.EdgesAreIssuedHeldAndMerged : Prop :=
  (∀ (c : Fin 24) (w : Window) (on off : Nat) (s : State), s.rif.outbound.length < 64 → s.rif.tx ≠ .idle →
    ∃ exact dwell : Nat,
      (2 * exact * 1000000 ≤ 2 * (s.pos.s * (s.channel c).delay) + 1000000 ∧
        2 * (s.pos.s * (s.channel c).delay) < 2 * exact * 1000000 + 1000000) ∧
      ((s.channel c).dwellMin * s.pos.s ≤ dwell * 1000000 ∧ dwell * 1000000 < (s.channel c).dwellMin * s.pos.s + 1000000) ∧
      let position : Int := (w.target * 4096 + on : Int) - min 2047 exact
      let t := s.issueOn c w on off
      t.camChannel c = ⟨(s.camChannel c).schedule.tail,
        some ⟨w.serial, if on < off then w.target else w.target + 1, off, position + dwell, false⟩, .on,
        if (s.channel c).function = .gate then 0 else (s.camChannel c).merges⟩ ∧
      (∀ d, d ≠ c → t.camChannel d = s.camChannel d) ∧
      (∃ count : Nat, count < 65536 ∧ (count - (position - s.pos.raw + s.pos.lastCount)) % 65536 = 0 ∧
        t.rif = { s.rif with outbound := s.rif.outbound ++
          [.output (s.channel c).node (s.channel c).point true false c count (w.serial % 65536)] }) ∧
      t.sup.counters.get ctrLeadClamps =
        (if 2047 < exact then saturate (s.sup.counters.get ctrLeadClamps) else s.sup.counters.get ctrLeadClamps) ∧
      t.sup.counters.get ctrCommandsLate =
        (if position < s.pos.held then saturate (s.sup.counters.get ctrCommandsLate)
          else s.sup.counters.get ctrCommandsLate) ∧
      t = { s with cam := t.cam, rif := t.rif, sup := { s.sup with counters := t.sup.counters } }) ∧
  (∀ (c : Fin 24) (a : ActiveOff) (s : State), s.rif.outbound.length < 64 → s.rif.tx ≠ .idle →
    let exact := (s.pos.s * (s.channel c).delay + 500000) / 1000000
    let byAngle : Int := (a.offPitch * 4096 + a.offAngle : Int) - min 2047 exact
    let position := max byAngle a.minOff
    let counter := fun (p : Prop) [Decidable p] (k : Fin 38) =>
      if p then saturate (s.sup.counters.get k) else s.sup.counters.get k
    let t := s.issueOff c a
    t.camChannel c = ⟨(s.camChannel c).schedule, none, .off,
      if (s.channel c).function = .gate then 0 else (s.camChannel c).merges⟩ ∧
    (∀ d, d ≠ c → t.camChannel d = s.camChannel d) ∧
    (∃ count : Nat, count < 65536 ∧ (count - (position - s.pos.raw + s.pos.lastCount)) % 65536 = 0 ∧
      t.rif = { s.rif with outbound := s.rif.outbound ++
        [.output (s.channel c).node (s.channel c).point false false c count (a.serial % 65536)] }) ∧
    t.sup.counters.get ctrDwellExtends = counter (byAngle < a.minOff) ctrDwellExtends ∧
    t.sup.counters.get ctrLeadClamps = counter (2047 < exact) ctrLeadClamps ∧
    t.sup.counters.get ctrCommandsLate = counter (position < s.pos.held) ctrCommandsLate ∧
    t = { s with cam := t.cam, rif := t.rif, sup := { s.sup with counters := t.sup.counters } }) ∧
  ∀ (c : Fin 24) (s : State),
    let x := s.camChannel c
    let becomes := fun y : CamChannel => { s with cam := s.cam.set c y }
    let within := fun (a : ActiveOff) (target on : Nat) =>
      s.onFiring c target on ≤ s.offFiring c a + (s.channel c).mergeGap
    (∀ a, let partner := ∃ w on off, x.schedule.head? = some w ∧ w.angles = some (on, off) ∧ within a w.target on
      (partner → s.takeOff c a = becomes { x with activeOff := some { a with held := true } }) ∧
      (¬partner → s.takeOff c a = s.issueOff c a)) ∧
    (∀ w on off,
      (x.activeOff = none → s.fire c w on off = s.issueOn c w on off) ∧
      ∀ a, x.activeOff = some a →
        (within a w.target on → s.fire c w on off = becomes { x with
          schedule := x.schedule.tail
          activeOff := some ⟨w.serial, if on < off then w.target else w.target + 1, off, a.minOff, false⟩
          merges := if (s.channel c).function = .gate then x.merges + 1 else x.merges }) ∧
        (¬within a w.target on → s.fire c w on off = (s.issueOff c a).issueOn c w on off)) ∧
    ((∀ a, x.activeOff = some a → a.held = false) → s.noFire c = becomes { x with schedule := x.schedule.tail }) ∧
    ∀ a, x.activeOff = some a → a.held = true →
      s.noFire c = (becomes { x with schedule := x.schedule.tail }).issueOff c a

/-- The checks of an input. A new record opens one, unresolved and at the tail, on each input that a present program of its
format checks, with one alternative for each such program, built from its entry and the input's offset, neither seen nor
passed (R100). A resolution, inputs ascending (R107), keeps the alternative of the record's variant, or of variant 0 marked
as a fallback where it has none, with the flags it has gathered; the check leaves the list where it holds no such
alternative, and closes at once where the kept one has passed (R101). A closing check (R104 to R106): it leaves the input's list and its window is the last closed one; a fallback, a poisoned
record or a suppressed paired channel skips it; a pass sets the consecutive count to 0; a defect writes CHECK and the
input into a record still open, raises the count up to 15, counts a run where it was 0, and at the limit raises
CONSECUTIVE_DEFECT with effect STOP and sets the count to 0. -/
def Obligations.ChecksAreOpenedResolvedAndJudged : Prop :=
  (∀ (r : Record) (s : State),
    let t := s.chkCreate r
    let target := fun i : Fin 16 => r.birth + (s.input i).offset
    let entry := fun (v : Fin 4) (i : Fin 16) => ((s.format r.format).program v).check? i
    t = { s with chk := t.chk } ∧
    ∀ i : Fin 16,
      ((∀ v, entry v i = none) → t.chkInput i = s.chkInput i) ∧
      ((∃ v k, entry v i = some k) → ∃ alternatives,
        t.chkInput i = { s.chkInput i with
          pending := (s.chkInput i).pending ++ [⟨r.serial, r.birth, target i, false, alternatives⟩] } ∧
        (alternatives.map Alternative.variant).Nodup ∧
        ∀ a, a ∈ alternatives ↔ ∃ v k, entry v i = some k ∧
          a = ⟨v, target i * 4096 + k.start, target i * 4096 + k.stop, k.expect, k.paired, false, false, false⟩)) ∧
  (∀ (r : Record) (s : State),
    let variant := match r.variant with | some v => v | none => 0
    s.chkResolve r = (List.finRange 16).foldl (State.resolveInput r) s ∧
    ∀ i : Fin 16,
      let becomes := fun pending : List PendingCheck => { s with chk := s.chk.set i { s.chkInput i with pending := pending } }
      ((∀ p ∈ (s.chkInput i).pending, p.serial = r.serial → p.resolved = true) → s.resolveInput r i = s) ∧
      ∀ before p after, (s.chkInput i).pending = before ++ p :: after → p.serial = r.serial → p.resolved = false →
        (∀ q ∈ before ++ after, q.serial ≠ r.serial) →
        ((∀ a ∈ p.alternatives, a.variant ≠ variant) → s.resolveInput r i = becomes (before ++ after)) ∧
        ∀ front a back, p.alternatives = front ++ a :: back → a.variant = variant →
          (∀ b ∈ front ++ back, b.variant ≠ variant) →
          let kept := { a with fallback := r.variant.isNone }
          let resolved := becomes (before ++ { p with resolved := true, alternatives := [kept] } :: after)
          (a.passed = false → s.resolveInput r i = resolved) ∧
          (a.passed = true → s.resolveInput r i = resolved.closeCheck i r.serial kept)) ∧
  ∀ (i : Fin 16) (a : Alternative) (before after : List Record) (r : Record) (s : State),
    s.trq.queue = before ++ r :: after → (∀ x ∈ before ++ after, x.serial ≠ r.serial) →
    let t := s.closeCheck i r.serial a
    let x := s.chkInput i
    let skipped := a.fallback = true ∨ r.poisoned = true ∨ ∃ c, a.paired = some c ∧ c ∈ r.suppressed
    let passes := (a.expect = .present ∧ a.seen = true) ∨ (a.expect = .absent ∧ a.seen = false)
    let closed := fun n : Nat => (⟨x.pulse, x.pending.filter fun p => p.serial != r.serial, some (a.start, a.stop), n⟩ : ChkInput)
    let limit := (s.input i).limit
    let count := min 15 (x.consecutive + 1)
    (∀ j, j ≠ i → t.chkInput j = s.chkInput j) ∧
    (skipped → t.chkInput i = closed x.consecutive ∧ t = { s with chk := t.chk }) ∧
    (¬skipped → passes → t.chkInput i = closed 0 ∧ t = { s with chk := t.chk }) ∧
    (¬skipped → ¬passes →
      (r.final = none → t.trq = { s.trq with queue := before ++ { r with
        defects := { r.defects with check := true }
        failed := if i ∈ r.failed then r.failed else r.failed ++ [i] } :: after }) ∧
      (r.final ≠ none → t.trq = s.trq ∧
        t.sup.counters.get ctrDefectsAfterFinal = saturate (s.sup.counters.get ctrDefectsAfterFinal)) ∧
      (t.sup.counters.get (ctrDefectRuns i) =
        if x.consecutive = 0 then saturate (s.sup.counters.get (ctrDefectRuns i))
        else s.sup.counters.get (ctrDefectRuns i)) ∧
      (limit = 0 ∨ count ≠ limit → t.chkInput i = closed count ∧ t.sup.deferred = s.sup.deferred ∧
        t.sup.log = s.sup.log) ∧
      (0 < limit → count = limit → t.chkInput i = closed 0 ∧
        t.sup.deferred = s.sup.deferred ++ [.stop (.fault t.sup.lastSequence)] ∧
        (s.sup.lastSequence < 4294967295 → s.sup.log.length < 16 → t.sup.log = s.sup.log ++
          [⟨s.sup.lastSequence + 1, .consecutiveDefect, .stop, s.sup.line, s.pitch, .number i.val⟩])))

/-! ### What every step keeps -/

/-- The laws of the state hold after reset, with any value of the strap pins (R1, R36, R129, R145, R157, R163, R168). That
State.reset is the one with the strap pins and the free index at 0 is the model's choice (log 23). -/
def Obligations.ResetMeetsTheLaws : Prop :=
  (∀ (strap : BitVec 4) (free : Nat) (pending : List Instr),
    let s := State.powerOn strap free pending
    s.Bounded ∧ s.LogOrdered ∧ s.TrimHeld ∧ s.LotsOrdered ∧ s.FlightsCounted ∧ s.Settled ∧ s.RunsKnown) ∧
  State.reset = State.powerOn 0 0 []

/-- Every step keeps the bounds of the speed history, the outbound and management queues, the fault log, the lot table, the
box queue and the counters, and leaves nothing reserved (R1, R113, R129, R157, R163, R168, R176). -/
def Obligations.EveryStepKeepsTheBounds : Prop :=
  ∀ s t : State, s.Bounded → step s = .next t → t.Bounded

/-- Every step keeps the fault log in strictly ascending sequence up to the last one, and the trim within the trim max of
the settings in force (R157, R159, R36, R46, R51). -/
def Obligations.EveryStepKeepsTheLogAndTheTrim : Prop :=
  (∀ s t : State, s.LogOrdered → step s = .next t → t.LogOrdered) ∧
    ∀ s t : State, s.TrimHeld → step s = .next t → t.TrimHeld

/-- Every step keeps the order of the lot table, its keys distinct, at most one CUTTING lot, and every lot's in-flight
count the number of its records (R130, R131, R138, R139, R142). -/
def Obligations.EveryStepKeepsTheLotTable : Prop :=
  ∀ s t : State, s.LotsOrdered → s.FlightsCounted → step s = .next t → t.LotsOrdered ∧ t.FlightsCounted

/-- Every step leaves no stop or halt untaken (R159 step 4), and while the line is RUN or RUNOUT the position is KNOWN
(R13). -/
def Obligations.EveryStepTakesItsEffects : Prop :=
  (∀ s t : State, s.Settled → step s = .next t → t.Settled) ∧ ∀ s t : State, s.RunsKnown → step s = .next t → t.RunsKnown
end

