-- ==== Sys2Proof/Laws/Advance.lean ====
section
/-! SUPPORT. The order of an advance: every turn once, CAM before TRQ. -/

namespace Sys2Proof.Machine

/-- A picked order takes every turn once. -/
theorem orderFrom_perm : ∀ (k : Nat) (turns : List Turn) (n : Nat), turns.length = k → (orderFrom k turns n).Perm turns
  | 0, [], _, _ => .nil
  | k + 1, t :: rest, n, h => by
    have hi : n % (rest.length + 1) < (t :: rest).length := Nat.mod_lt _ (Nat.succ_pos _)
    have hk : ((t :: rest).eraseIdx (n % (rest.length + 1))).length = k := by
      rw [List.length_eraseIdx_of_lt hi, h]
      rfl
    have hd : (t :: rest).getD (n % (rest.length + 1)) t = (t :: rest)[n % (rest.length + 1)] := by
      rw [List.getD_eq_getElem?_getD, List.getElem?_eq_getElem hi]
      rfl
    rw [orderFrom, hd]
    exact ((orderFrom_perm k _ _ hk).cons _).trans (List.getElem_cons_eraseIdx_perm hi)

/-- Exchanging CAM and TRQ exchanges their places. -/
theorem idxOf_exchanged (a : Turn) : ∀ l : List Turn, (l.map Turn.exchanged).idxOf a = l.idxOf a.exchanged
  | [] => rfl
  | b :: rest => by
    have h : (b.exchanged == a) = (b == a.exchanged) := by cases a <;> cases b <;> rfl
    rw [List.map_cons, List.idxOf_cons, List.idxOf_cons, h, idxOf_exchanged a rest]

/-- An advance takes every turn once. -/
theorem advanceOrder_perm (n : Nat) : (advanceOrder n).Perm allTurns := by
  have h := orderFrom_perm 6 allTurns n rfl
  show (if settlesFirst (orderFrom 6 allTurns n) then _ else _ : List Turn).Perm _
  split
  · exact h
  · exact (h.map Turn.exchanged).trans (by decide)

/-- An advance takes CAM's turn before TRQ's (R65). -/
theorem advanceOrder_settlesFirst (n : Nat) : settlesFirst (advanceOrder n) = true := by
  show settlesFirst (if settlesFirst (orderFrom 6 allTurns n) then _ else _) = true
  split
  · assumption
  · next h =>
    have hp := orderFrom_perm 6 allTurns n rfl
    have hc : (orderFrom 6 allTurns n).idxOf .cam < _ :=
      List.idxOf_lt_length_iff.mpr (hp.mem_iff.mpr (by decide : Turn.cam ∈ allTurns))
    have hne : (orderFrom 6 allTurns n).idxOf .cam ≠ (orderFrom 6 allTurns n).idxOf .trq := fun he => by
      have := List.idxOf_inj (y := Turn.trq) (hp.mem_iff.mpr (by decide : Turn.cam ∈ allTurns)) |>.mp he
      exact absurd this (by decide)
    simp only [settlesFirst, decide_eq_true_eq] at h ⊢
    rw [idxOf_exchanged, idxOf_exchanged]
    show (orderFrom 6 allTurns n).idxOf .trq < (orderFrom 6 allTurns n).idxOf .cam
    omega

end Sys2Proof.Machine
end

