-- ==== Sys2Proof/Laws/State.lean ====
section
/-! SUPPORT. What each update of the state leaves as it was: one lemma per field and update, true by unfolding. -/

namespace Sys2Proof.Machine

/-! ### Counters and free choices -/

@[simp] theorem State.bump_pos (c : Fin 38) (s : State) : (s.bump c).pos = s.pos := rfl
@[simp] theorem State.bump_store (c : Fin 38) (s : State) : (s.bump c).store = s.store := rfl
@[simp] theorem State.bump_reg (c : Fin 38) (s : State) : (s.bump c).reg = s.reg := rfl
@[simp] theorem State.bump_trq (c : Fin 38) (s : State) : (s.bump c).trq = s.trq := rfl
@[simp] theorem State.bump_cam (c : Fin 38) (s : State) : (s.bump c).cam = s.cam := rfl
@[simp] theorem State.bump_chk (c : Fin 38) (s : State) : (s.bump c).chk = s.chk := rfl
@[simp] theorem State.bump_lot (c : Fin 38) (s : State) : (s.bump c).lot = s.lot := rfl
@[simp] theorem State.bump_rif (c : Fin 38) (s : State) : (s.bump c).rif = s.rif := rfl
@[simp] theorem State.bump_free (c : Fin 38) (s : State) : (s.bump c).free = s.free := rfl
@[simp] theorem State.bump_pending (c : Fin 38) (s : State) : (s.bump c).pending = s.pending := rfl
@[simp] theorem State.bump_sup_line (c : Fin 38) (s : State) : (s.bump c).sup.line = s.sup.line := rfl
@[simp] theorem State.bump_sup_reason (c : Fin 38) (s : State) : (s.bump c).sup.reason = s.sup.reason := rfl
@[simp] theorem State.bump_sup_lastSequence (c : Fin 38) (s : State) :
    (s.bump c).sup.lastSequence = s.sup.lastSequence := rfl
@[simp] theorem State.bump_sup_log (c : Fin 38) (s : State) : (s.bump c).sup.log = s.sup.log := rfl
@[simp] theorem State.bump_sup_overflow (c : Fin 38) (s : State) : (s.bump c).sup.overflow = s.sup.overflow := rfl
@[simp] theorem State.bump_sup_deferred (c : Fin 38) (s : State) : (s.bump c).sup.deferred = s.sup.deferred := rfl

@[simp] theorem State.choose_fst (s : State) : s.choose.1 = Config.pick s.free := rfl
@[simp] theorem State.choose_free (s : State) : s.choose.2.free = s.free + 1 := rfl
@[simp] theorem State.choose_pos (s : State) : s.choose.2.pos = s.pos := rfl
@[simp] theorem State.choose_store (s : State) : s.choose.2.store = s.store := rfl
@[simp] theorem State.choose_reg (s : State) : s.choose.2.reg = s.reg := rfl
@[simp] theorem State.choose_trq (s : State) : s.choose.2.trq = s.trq := rfl
@[simp] theorem State.choose_cam (s : State) : s.choose.2.cam = s.cam := rfl
@[simp] theorem State.choose_chk (s : State) : s.choose.2.chk = s.chk := rfl
@[simp] theorem State.choose_lot (s : State) : s.choose.2.lot = s.lot := rfl
@[simp] theorem State.choose_sup (s : State) : s.choose.2.sup = s.sup := rfl
@[simp] theorem State.choose_rif (s : State) : s.choose.2.rif = s.rif := rfl
@[simp] theorem State.choose_pending (s : State) : s.choose.2.pending = s.pending := rfl

/-! ### Tables, records and formats -/

@[simp] theorem State.setCam_pos (c : Fin 24) (f : CamChannel → CamChannel) (s : State) :
    (s.setCam c f).pos = s.pos := rfl
@[simp] theorem State.setCam_store (c : Fin 24) (f : CamChannel → CamChannel) (s : State) :
    (s.setCam c f).store = s.store := rfl
@[simp] theorem State.setCam_reg (c : Fin 24) (f : CamChannel → CamChannel) (s : State) :
    (s.setCam c f).reg = s.reg := rfl
@[simp] theorem State.setCam_trq (c : Fin 24) (f : CamChannel → CamChannel) (s : State) :
    (s.setCam c f).trq = s.trq := rfl
@[simp] theorem State.setCam_chk (c : Fin 24) (f : CamChannel → CamChannel) (s : State) :
    (s.setCam c f).chk = s.chk := rfl
@[simp] theorem State.setCam_lot (c : Fin 24) (f : CamChannel → CamChannel) (s : State) :
    (s.setCam c f).lot = s.lot := rfl
@[simp] theorem State.setCam_sup (c : Fin 24) (f : CamChannel → CamChannel) (s : State) :
    (s.setCam c f).sup = s.sup := rfl
@[simp] theorem State.setCam_rif (c : Fin 24) (f : CamChannel → CamChannel) (s : State) :
    (s.setCam c f).rif = s.rif := rfl
@[simp] theorem State.setCam_free (c : Fin 24) (f : CamChannel → CamChannel) (s : State) :
    (s.setCam c f).free = s.free := rfl
@[simp] theorem State.setCam_pending (c : Fin 24) (f : CamChannel → CamChannel) (s : State) :
    (s.setCam c f).pending = s.pending := rfl

@[simp] theorem State.setChk_pos (i : Fin 16) (f : ChkInput → ChkInput) (s : State) :
    (s.setChk i f).pos = s.pos := rfl
@[simp] theorem State.setChk_store (i : Fin 16) (f : ChkInput → ChkInput) (s : State) :
    (s.setChk i f).store = s.store := rfl
@[simp] theorem State.setChk_reg (i : Fin 16) (f : ChkInput → ChkInput) (s : State) :
    (s.setChk i f).reg = s.reg := rfl
@[simp] theorem State.setChk_trq (i : Fin 16) (f : ChkInput → ChkInput) (s : State) :
    (s.setChk i f).trq = s.trq := rfl
@[simp] theorem State.setChk_cam (i : Fin 16) (f : ChkInput → ChkInput) (s : State) :
    (s.setChk i f).cam = s.cam := rfl
@[simp] theorem State.setChk_lot (i : Fin 16) (f : ChkInput → ChkInput) (s : State) :
    (s.setChk i f).lot = s.lot := rfl
@[simp] theorem State.setChk_sup (i : Fin 16) (f : ChkInput → ChkInput) (s : State) :
    (s.setChk i f).sup = s.sup := rfl
@[simp] theorem State.setChk_rif (i : Fin 16) (f : ChkInput → ChkInput) (s : State) :
    (s.setChk i f).rif = s.rif := rfl
@[simp] theorem State.setChk_free (i : Fin 16) (f : ChkInput → ChkInput) (s : State) :
    (s.setChk i f).free = s.free := rfl
@[simp] theorem State.setChk_pending (i : Fin 16) (f : ChkInput → ChkInput) (s : State) :
    (s.setChk i f).pending = s.pending := rfl

@[simp] theorem State.writeRecord_pos (serial : Nat) (f : Record → Record) (s : State) :
    (s.writeRecord serial f).pos = s.pos := rfl
@[simp] theorem State.writeRecord_store (serial : Nat) (f : Record → Record) (s : State) :
    (s.writeRecord serial f).store = s.store := rfl
@[simp] theorem State.writeRecord_reg (serial : Nat) (f : Record → Record) (s : State) :
    (s.writeRecord serial f).reg = s.reg := rfl
@[simp] theorem State.writeRecord_cam (serial : Nat) (f : Record → Record) (s : State) :
    (s.writeRecord serial f).cam = s.cam := rfl
@[simp] theorem State.writeRecord_chk (serial : Nat) (f : Record → Record) (s : State) :
    (s.writeRecord serial f).chk = s.chk := rfl
@[simp] theorem State.writeRecord_lot (serial : Nat) (f : Record → Record) (s : State) :
    (s.writeRecord serial f).lot = s.lot := rfl
@[simp] theorem State.writeRecord_sup (serial : Nat) (f : Record → Record) (s : State) :
    (s.writeRecord serial f).sup = s.sup := rfl
@[simp] theorem State.writeRecord_rif (serial : Nat) (f : Record → Record) (s : State) :
    (s.writeRecord serial f).rif = s.rif := rfl
@[simp] theorem State.writeRecord_free (serial : Nat) (f : Record → Record) (s : State) :
    (s.writeRecord serial f).free = s.free := rfl
@[simp] theorem State.writeRecord_pending (serial : Nat) (f : Record → Record) (s : State) :
    (s.writeRecord serial f).pending = s.pending := rfl
@[simp] theorem State.writeRecord_trq_serial (serial : Nat) (f : Record → Record) (s : State) :
    (s.writeRecord serial f).trq.serial = s.trq.serial := rfl

@[simp] theorem State.writeLot_pos (k : LotKey) (f : Lot → Lot) (s : State) : (s.writeLot k f).pos = s.pos := rfl
@[simp] theorem State.writeLot_store (k : LotKey) (f : Lot → Lot) (s : State) :
    (s.writeLot k f).store = s.store := rfl
@[simp] theorem State.writeLot_reg (k : LotKey) (f : Lot → Lot) (s : State) : (s.writeLot k f).reg = s.reg := rfl
@[simp] theorem State.writeLot_trq (k : LotKey) (f : Lot → Lot) (s : State) : (s.writeLot k f).trq = s.trq := rfl
@[simp] theorem State.writeLot_cam (k : LotKey) (f : Lot → Lot) (s : State) : (s.writeLot k f).cam = s.cam := rfl
@[simp] theorem State.writeLot_chk (k : LotKey) (f : Lot → Lot) (s : State) : (s.writeLot k f).chk = s.chk := rfl
@[simp] theorem State.writeLot_sup (k : LotKey) (f : Lot → Lot) (s : State) : (s.writeLot k f).sup = s.sup := rfl
@[simp] theorem State.writeLot_rif (k : LotKey) (f : Lot → Lot) (s : State) : (s.writeLot k f).rif = s.rif := rfl
@[simp] theorem State.writeLot_free (k : LotKey) (f : Lot → Lot) (s : State) : (s.writeLot k f).free = s.free := rfl
@[simp] theorem State.writeLot_pending (k : LotKey) (f : Lot → Lot) (s : State) :
    (s.writeLot k f).pending = s.pending := rfl
@[simp] theorem State.writeLot_lot_boxes (k : LotKey) (f : Lot → Lot) (s : State) :
    (s.writeLot k f).lot.boxes = s.lot.boxes := rfl
@[simp] theorem State.writeLot_lot_runClass (k : LotKey) (f : Lot → Lot) (s : State) :
    (s.writeLot k f).lot.runClass = s.lot.runClass := rfl

@[simp] theorem State.setFormat_pos (i : Fin 16) (f : Format → Format) (s : State) :
    (s.setFormat i f).pos = s.pos := rfl
@[simp] theorem State.setFormat_reg (i : Fin 16) (f : Format → Format) (s : State) :
    (s.setFormat i f).reg = s.reg := rfl
@[simp] theorem State.setFormat_trq (i : Fin 16) (f : Format → Format) (s : State) :
    (s.setFormat i f).trq = s.trq := rfl
@[simp] theorem State.setFormat_cam (i : Fin 16) (f : Format → Format) (s : State) :
    (s.setFormat i f).cam = s.cam := rfl
@[simp] theorem State.setFormat_chk (i : Fin 16) (f : Format → Format) (s : State) :
    (s.setFormat i f).chk = s.chk := rfl
@[simp] theorem State.setFormat_lot (i : Fin 16) (f : Format → Format) (s : State) :
    (s.setFormat i f).lot = s.lot := rfl
@[simp] theorem State.setFormat_sup (i : Fin 16) (f : Format → Format) (s : State) :
    (s.setFormat i f).sup = s.sup := rfl
@[simp] theorem State.setFormat_rif (i : Fin 16) (f : Format → Format) (s : State) :
    (s.setFormat i f).rif = s.rif := rfl
@[simp] theorem State.setFormat_free (i : Fin 16) (f : Format → Format) (s : State) :
    (s.setFormat i f).free = s.free := rfl
@[simp] theorem State.setFormat_pending (i : Fin 16) (f : Format → Format) (s : State) :
    (s.setFormat i f).pending = s.pending := rfl
@[simp] theorem State.setFormat_store_channels (i : Fin 16) (f : Format → Format) (s : State) :
    (s.setFormat i f).store.channels = s.store.channels := rfl
@[simp] theorem State.setFormat_store_inputs (i : Fin 16) (f : Format → Format) (s : State) :
    (s.setFormat i f).store.inputs = s.store.inputs := rfl
@[simp] theorem State.setFormat_store_map (i : Fin 16) (f : Format → Format) (s : State) :
    (s.setFormat i f).store.map = s.store.map := rfl
@[simp] theorem State.setFormat_store_settings (i : Fin 16) (f : Format → Format) (s : State) :
    (s.setFormat i f).store.settings = s.store.settings := rfl

/-! ### Line, effects and wire -/

@[simp] theorem State.setLine_pos (line : LineState) (reason : StopReason) (s : State) :
    (s.setLine line reason).pos = s.pos := rfl
@[simp] theorem State.setLine_store (line : LineState) (reason : StopReason) (s : State) :
    (s.setLine line reason).store = s.store := rfl
@[simp] theorem State.setLine_reg (line : LineState) (reason : StopReason) (s : State) :
    (s.setLine line reason).reg = s.reg := rfl
@[simp] theorem State.setLine_trq (line : LineState) (reason : StopReason) (s : State) :
    (s.setLine line reason).trq = s.trq := rfl
@[simp] theorem State.setLine_cam (line : LineState) (reason : StopReason) (s : State) :
    (s.setLine line reason).cam = s.cam := rfl
@[simp] theorem State.setLine_chk (line : LineState) (reason : StopReason) (s : State) :
    (s.setLine line reason).chk = s.chk := rfl
@[simp] theorem State.setLine_lot (line : LineState) (reason : StopReason) (s : State) :
    (s.setLine line reason).lot = s.lot := rfl
@[simp] theorem State.setLine_rif (line : LineState) (reason : StopReason) (s : State) :
    (s.setLine line reason).rif = s.rif := rfl
@[simp] theorem State.setLine_free (line : LineState) (reason : StopReason) (s : State) :
    (s.setLine line reason).free = s.free := rfl
@[simp] theorem State.setLine_pending (line : LineState) (reason : StopReason) (s : State) :
    (s.setLine line reason).pending = s.pending := rfl
@[simp] theorem State.setLine_sup_lastSequence (line : LineState) (reason : StopReason) (s : State) :
    (s.setLine line reason).sup.lastSequence = s.sup.lastSequence := rfl
@[simp] theorem State.setLine_sup_log (line : LineState) (reason : StopReason) (s : State) :
    (s.setLine line reason).sup.log = s.sup.log := rfl
@[simp] theorem State.setLine_sup_overflow (line : LineState) (reason : StopReason) (s : State) :
    (s.setLine line reason).sup.overflow = s.sup.overflow := rfl
@[simp] theorem State.setLine_sup_counters (line : LineState) (reason : StopReason) (s : State) :
    (s.setLine line reason).sup.counters = s.sup.counters := rfl
@[simp] theorem State.setLine_sup_deferred (line : LineState) (reason : StopReason) (s : State) :
    (s.setLine line reason).sup.deferred = s.sup.deferred := rfl

@[simp] theorem State.setLine_line (line : LineState) (reason : StopReason) (s : State) :
 (s.setLine line reason).sup.line = line := rfl
@[simp] theorem State.setLine_reason (line : LineState) (reason : StopReason) (s : State) :
 (s.setLine line reason).sup.reason = reason := rfl

@[simp] theorem State.defer_pos (d : Deferred) (s : State) : (s.defer d).pos = s.pos := rfl
@[simp] theorem State.defer_store (d : Deferred) (s : State) : (s.defer d).store = s.store := rfl
@[simp] theorem State.defer_reg (d : Deferred) (s : State) : (s.defer d).reg = s.reg := rfl
@[simp] theorem State.defer_trq (d : Deferred) (s : State) : (s.defer d).trq = s.trq := rfl
@[simp] theorem State.defer_cam (d : Deferred) (s : State) : (s.defer d).cam = s.cam := rfl
@[simp] theorem State.defer_chk (d : Deferred) (s : State) : (s.defer d).chk = s.chk := rfl
@[simp] theorem State.defer_lot (d : Deferred) (s : State) : (s.defer d).lot = s.lot := rfl
@[simp] theorem State.defer_rif (d : Deferred) (s : State) : (s.defer d).rif = s.rif := rfl
@[simp] theorem State.defer_free (d : Deferred) (s : State) : (s.defer d).free = s.free := rfl
@[simp] theorem State.defer_pending (d : Deferred) (s : State) : (s.defer d).pending = s.pending := rfl
@[simp] theorem State.defer_sup_line (d : Deferred) (s : State) : (s.defer d).sup.line = s.sup.line := rfl
@[simp] theorem State.defer_sup_reason (d : Deferred) (s : State) : (s.defer d).sup.reason = s.sup.reason := rfl
@[simp] theorem State.defer_sup_lastSequence (d : Deferred) (s : State) :
    (s.defer d).sup.lastSequence = s.sup.lastSequence := rfl
@[simp] theorem State.defer_sup_log (d : Deferred) (s : State) : (s.defer d).sup.log = s.sup.log := rfl
@[simp] theorem State.defer_sup_overflow (d : Deferred) (s : State) : (s.defer d).sup.overflow = s.sup.overflow := rfl
@[simp] theorem State.defer_sup_counters (d : Deferred) (s : State) : (s.defer d).sup.counters = s.sup.counters := rfl

@[simp] theorem State.emptyOutbound_pos (s : State) : (s.emptyOutbound).pos = s.pos := rfl
@[simp] theorem State.emptyOutbound_store (s : State) : (s.emptyOutbound).store = s.store := rfl
@[simp] theorem State.emptyOutbound_reg (s : State) : (s.emptyOutbound).reg = s.reg := rfl
@[simp] theorem State.emptyOutbound_trq (s : State) : (s.emptyOutbound).trq = s.trq := rfl
@[simp] theorem State.emptyOutbound_cam (s : State) : (s.emptyOutbound).cam = s.cam := rfl
@[simp] theorem State.emptyOutbound_chk (s : State) : (s.emptyOutbound).chk = s.chk := rfl
@[simp] theorem State.emptyOutbound_lot (s : State) : (s.emptyOutbound).lot = s.lot := rfl
@[simp] theorem State.emptyOutbound_sup (s : State) : (s.emptyOutbound).sup = s.sup := rfl
@[simp] theorem State.emptyOutbound_free (s : State) : (s.emptyOutbound).free = s.free := rfl
@[simp] theorem State.emptyOutbound_pending (s : State) : (s.emptyOutbound).pending = s.pending := rfl
@[simp] theorem State.emptyOutbound_rif_own (s : State) : (s.emptyOutbound).rif.own = s.rif.own := rfl
@[simp] theorem State.emptyOutbound_rif_linkUp (s : State) : (s.emptyOutbound).rif.linkUp = s.rif.linkUp := rfl
@[simp] theorem State.emptyOutbound_rif_linkDownFlag (s : State) :
    (s.emptyOutbound).rif.linkDownFlag = s.rif.linkDownFlag := rfl
@[simp] theorem State.emptyOutbound_rif_forward (s : State) : (s.emptyOutbound).rif.forward = s.rif.forward := rfl
@[simp] theorem State.emptyOutbound_rif_partialBytes (s : State) :
    (s.emptyOutbound).rif.partialBytes = s.rif.partialBytes := rfl
@[simp] theorem State.emptyOutbound_rif_management (s : State) :
    (s.emptyOutbound).rif.management = s.rif.management := rfl
@[simp] theorem State.emptyOutbound_rif_reserved (s : State) : (s.emptyOutbound).rif.reserved = s.rif.reserved := rfl
@[simp] theorem State.emptyOutbound_rif_tx (s : State) : (s.emptyOutbound).rif.tx = s.rif.tx := rfl

@[simp] theorem State.heard_pos (s : State) : (s.heard).pos = s.pos := rfl
@[simp] theorem State.heard_store (s : State) : (s.heard).store = s.store := rfl
@[simp] theorem State.heard_reg (s : State) : (s.heard).reg = s.reg := rfl
@[simp] theorem State.heard_trq (s : State) : (s.heard).trq = s.trq := rfl
@[simp] theorem State.heard_cam (s : State) : (s.heard).cam = s.cam := rfl
@[simp] theorem State.heard_chk (s : State) : (s.heard).chk = s.chk := rfl
@[simp] theorem State.heard_lot (s : State) : (s.heard).lot = s.lot := rfl
@[simp] theorem State.heard_sup (s : State) : (s.heard).sup = s.sup := rfl
@[simp] theorem State.heard_free (s : State) : (s.heard).free = s.free := rfl
@[simp] theorem State.heard_pending (s : State) : (s.heard).pending = s.pending := rfl
@[simp] theorem State.heard_rif_own (s : State) : (s.heard).rif.own = s.rif.own := rfl
@[simp] theorem State.heard_rif_linkUp (s : State) : (s.heard).rif.linkUp = s.rif.linkUp := rfl
@[simp] theorem State.heard_rif_linkDownFlag (s : State) : (s.heard).rif.linkDownFlag = s.rif.linkDownFlag := rfl
@[simp] theorem State.heard_rif_forward (s : State) : (s.heard).rif.forward = s.rif.forward := rfl
@[simp] theorem State.heard_rif_outbound (s : State) : (s.heard).rif.outbound = s.rif.outbound := rfl
@[simp] theorem State.heard_rif_overrun (s : State) : (s.heard).rif.overrun = s.rif.overrun := rfl
@[simp] theorem State.heard_rif_management (s : State) : (s.heard).rif.management = s.rif.management := rfl
@[simp] theorem State.heard_rif_reserved (s : State) : (s.heard).rif.reserved = s.rif.reserved := rfl
@[simp] theorem State.heard_rif_tx (s : State) : (s.heard).rif.tx = s.rif.tx := rfl

@[simp] theorem State.answered_pos (src code tag : Byte) (r : Reply) (s : State) :
    (s.answered src code tag r).pos = s.pos := rfl
@[simp] theorem State.answered_store (src code tag : Byte) (r : Reply) (s : State) :
    (s.answered src code tag r).store = s.store := rfl
@[simp] theorem State.answered_reg (src code tag : Byte) (r : Reply) (s : State) :
    (s.answered src code tag r).reg = s.reg := rfl
@[simp] theorem State.answered_trq (src code tag : Byte) (r : Reply) (s : State) :
    (s.answered src code tag r).trq = s.trq := rfl
@[simp] theorem State.answered_cam (src code tag : Byte) (r : Reply) (s : State) :
    (s.answered src code tag r).cam = s.cam := rfl
@[simp] theorem State.answered_chk (src code tag : Byte) (r : Reply) (s : State) :
    (s.answered src code tag r).chk = s.chk := rfl
@[simp] theorem State.answered_lot (src code tag : Byte) (r : Reply) (s : State) :
    (s.answered src code tag r).lot = s.lot := rfl
@[simp] theorem State.answered_sup (src code tag : Byte) (r : Reply) (s : State) :
    (s.answered src code tag r).sup = s.sup := rfl
@[simp] theorem State.answered_free (src code tag : Byte) (r : Reply) (s : State) :
    (s.answered src code tag r).free = s.free := rfl
@[simp] theorem State.answered_pending (src code tag : Byte) (r : Reply) (s : State) :
    (s.answered src code tag r).pending = s.pending := rfl

@[simp] theorem State.forward_pos (bytes : List Byte) (s : State) : (s.forward bytes).pos = s.pos := rfl
@[simp] theorem State.forward_store (bytes : List Byte) (s : State) : (s.forward bytes).store = s.store := rfl
@[simp] theorem State.forward_reg (bytes : List Byte) (s : State) : (s.forward bytes).reg = s.reg := rfl
@[simp] theorem State.forward_trq (bytes : List Byte) (s : State) : (s.forward bytes).trq = s.trq := rfl
@[simp] theorem State.forward_cam (bytes : List Byte) (s : State) : (s.forward bytes).cam = s.cam := rfl
@[simp] theorem State.forward_chk (bytes : List Byte) (s : State) : (s.forward bytes).chk = s.chk := rfl
@[simp] theorem State.forward_lot (bytes : List Byte) (s : State) : (s.forward bytes).lot = s.lot := rfl
@[simp] theorem State.forward_sup (bytes : List Byte) (s : State) : (s.forward bytes).sup = s.sup := rfl
@[simp] theorem State.forward_free (bytes : List Byte) (s : State) : (s.forward bytes).free = s.free := rfl
@[simp] theorem State.forward_pending (bytes : List Byte) (s : State) : (s.forward bytes).pending = s.pending := rfl

@[simp] theorem State.regOff_pos (s : State) : (s.regOff).pos = s.pos := rfl
@[simp] theorem State.regOff_store (s : State) : (s.regOff).store = s.store := rfl
@[simp] theorem State.regOff_trq (s : State) : (s.regOff).trq = s.trq := rfl
@[simp] theorem State.regOff_cam (s : State) : (s.regOff).cam = s.cam := rfl
@[simp] theorem State.regOff_chk (s : State) : (s.regOff).chk = s.chk := rfl
@[simp] theorem State.regOff_lot (s : State) : (s.regOff).lot = s.lot := rfl
@[simp] theorem State.regOff_sup (s : State) : (s.regOff).sup = s.sup := rfl
@[simp] theorem State.regOff_rif (s : State) : (s.regOff).rif = s.rif := rfl
@[simp] theorem State.regOff_free (s : State) : (s.regOff).free = s.free := rfl
@[simp] theorem State.regOff_pending (s : State) : (s.regOff).pending = s.pending := rfl
@[simp] theorem State.regOff_reg_marks (s : State) : (s.regOff).reg.marks = s.reg.marks := rfl
@[simp] theorem State.regOff_reg_trim (s : State) : (s.regOff).reg.trim = s.reg.trim := rfl
@[simp] theorem State.regOff_reg_trimClass (s : State) : (s.regOff).reg.trimClass = s.reg.trimClass := rfl
@[simp] theorem State.regOff_reg_inForce (s : State) : (s.regOff).reg.inForce = s.reg.inForce := rfl
@[simp] theorem State.regOff_reg_lost (s : State) : (s.regOff).reg.lost = s.reg.lost := rfl
@[simp] theorem State.regOff_reg_holdoff (s : State) : (s.regOff).reg.holdoff = s.reg.holdoff := rfl
@[simp] theorem State.regOff_reg_span (s : State) : (s.regOff).reg.span = s.reg.span := rfl
@[simp] theorem State.regOff_reg_openCandidate (s : State) : (s.regOff).reg.openCandidate = s.reg.openCandidate := rfl

@[simp] theorem State.camClear_pos (s : State) : (s.camClear).pos = s.pos := by simp only [State.camClear]
@[simp] theorem State.camClear_store (s : State) : (s.camClear).store = s.store := by simp only [State.camClear]
@[simp] theorem State.camClear_reg (s : State) : (s.camClear).reg = s.reg := by simp only [State.camClear]
@[simp] theorem State.camClear_trq (s : State) : (s.camClear).trq = s.trq := by simp only [State.camClear]
@[simp] theorem State.camClear_chk (s : State) : (s.camClear).chk = s.chk := by simp only [State.camClear]
@[simp] theorem State.camClear_lot (s : State) : (s.camClear).lot = s.lot := by simp only [State.camClear]
@[simp] theorem State.camClear_sup (s : State) : (s.camClear).sup = s.sup := by simp only [State.camClear]
@[simp] theorem State.camClear_rif (s : State) : (s.camClear).rif = s.rif := by simp only [State.camClear]
@[simp] theorem State.camClear_free (s : State) : (s.camClear).free = s.free := by simp only [State.camClear]
@[simp] theorem State.camClear_pending (s : State) : (s.camClear).pending = s.pending := by simp only [State.camClear]

@[simp] theorem State.chkReset_pos (s : State) : (s.chkReset).pos = s.pos := by simp only [State.chkReset]
@[simp] theorem State.chkReset_store (s : State) : (s.chkReset).store = s.store := by simp only [State.chkReset]
@[simp] theorem State.chkReset_reg (s : State) : (s.chkReset).reg = s.reg := by simp only [State.chkReset]
@[simp] theorem State.chkReset_trq (s : State) : (s.chkReset).trq = s.trq := by simp only [State.chkReset]
@[simp] theorem State.chkReset_cam (s : State) : (s.chkReset).cam = s.cam := by simp only [State.chkReset]
@[simp] theorem State.chkReset_lot (s : State) : (s.chkReset).lot = s.lot := by simp only [State.chkReset]
@[simp] theorem State.chkReset_sup (s : State) : (s.chkReset).sup = s.sup := by simp only [State.chkReset]
@[simp] theorem State.chkReset_rif (s : State) : (s.chkReset).rif = s.rif := by simp only [State.chkReset]
@[simp] theorem State.chkReset_free (s : State) : (s.chkReset).free = s.free := by simp only [State.chkReset]
@[simp] theorem State.chkReset_pending (s : State) : (s.chkReset).pending = s.pending := by simp only [State.chkReset]

@[simp] theorem State.chkPurge_pos (serial : Nat) (s : State) :
    (s.chkPurge serial).pos = s.pos := by simp only [State.chkPurge]
@[simp] theorem State.chkPurge_store (serial : Nat) (s : State) :
    (s.chkPurge serial).store = s.store := by simp only [State.chkPurge]
@[simp] theorem State.chkPurge_reg (serial : Nat) (s : State) :
    (s.chkPurge serial).reg = s.reg := by simp only [State.chkPurge]
@[simp] theorem State.chkPurge_trq (serial : Nat) (s : State) :
    (s.chkPurge serial).trq = s.trq := by simp only [State.chkPurge]
@[simp] theorem State.chkPurge_cam (serial : Nat) (s : State) :
    (s.chkPurge serial).cam = s.cam := by simp only [State.chkPurge]
@[simp] theorem State.chkPurge_lot (serial : Nat) (s : State) :
    (s.chkPurge serial).lot = s.lot := by simp only [State.chkPurge]
@[simp] theorem State.chkPurge_sup (serial : Nat) (s : State) :
    (s.chkPurge serial).sup = s.sup := by simp only [State.chkPurge]
@[simp] theorem State.chkPurge_rif (serial : Nat) (s : State) :
    (s.chkPurge serial).rif = s.rif := by simp only [State.chkPurge]
@[simp] theorem State.chkPurge_free (serial : Nat) (s : State) :
    (s.chkPurge serial).free = s.free := by simp only [State.chkPurge]
@[simp] theorem State.chkPurge_pending (serial : Nat) (s : State) :
    (s.chkPurge serial).pending = s.pending := by simp only [State.chkPurge]

@[simp] theorem State.chkLosePosition_pos (s : State) :
    (s.chkLosePosition).pos = s.pos := by simp only [State.chkLosePosition]
@[simp] theorem State.chkLosePosition_store (s : State) :
    (s.chkLosePosition).store = s.store := by simp only [State.chkLosePosition]
@[simp] theorem State.chkLosePosition_trq (s : State) :
    (s.chkLosePosition).trq = s.trq := by simp only [State.chkLosePosition]
@[simp] theorem State.chkLosePosition_cam (s : State) :
    (s.chkLosePosition).cam = s.cam := by simp only [State.chkLosePosition]
@[simp] theorem State.chkLosePosition_lot (s : State) :
    (s.chkLosePosition).lot = s.lot := by simp only [State.chkLosePosition]
@[simp] theorem State.chkLosePosition_sup (s : State) :
    (s.chkLosePosition).sup = s.sup := by simp only [State.chkLosePosition]
@[simp] theorem State.chkLosePosition_rif (s : State) :
    (s.chkLosePosition).rif = s.rif := by simp only [State.chkLosePosition]
@[simp] theorem State.chkLosePosition_free (s : State) :
    (s.chkLosePosition).free = s.free := by simp only [State.chkLosePosition]
@[simp] theorem State.chkLosePosition_pending (s : State) :
    (s.chkLosePosition).pending = s.pending := by simp only [State.chkLosePosition]

@[simp] theorem State.losePosition_store (s : State) :
    (s.losePosition).store = s.store := by simp only [State.losePosition, State.chkLosePosition]
@[simp] theorem State.losePosition_trq (s : State) :
    (s.losePosition).trq = s.trq := by simp only [State.losePosition, State.chkLosePosition]
@[simp] theorem State.losePosition_cam (s : State) :
    (s.losePosition).cam = s.cam := by simp only [State.losePosition, State.chkLosePosition]
@[simp] theorem State.losePosition_lot (s : State) :
    (s.losePosition).lot = s.lot := by simp only [State.losePosition, State.chkLosePosition]
@[simp] theorem State.losePosition_sup (s : State) :
    (s.losePosition).sup = s.sup := by simp only [State.losePosition, State.chkLosePosition]
@[simp] theorem State.losePosition_rif (s : State) :
    (s.losePosition).rif = s.rif := by simp only [State.losePosition, State.chkLosePosition]
@[simp] theorem State.losePosition_free (s : State) :
    (s.losePosition).free = s.free := by simp only [State.losePosition, State.chkLosePosition]
@[simp] theorem State.losePosition_pending (s : State) :
    (s.losePosition).pending = s.pending := by simp only [State.losePosition, State.chkLosePosition]
@[simp] theorem State.losePosition_pos_raw (s : State) :
    (s.losePosition).pos.raw = s.pos.raw := by simp only [State.losePosition, State.chkLosePosition]
@[simp] theorem State.losePosition_pos_held (s : State) :
    (s.losePosition).pos.held = s.pos.held := by simp only [State.losePosition, State.chkLosePosition]
@[simp] theorem State.losePosition_pos_lastCount (s : State) :
    (s.losePosition).pos.lastCount = s.pos.lastCount := by simp only [State.losePosition, State.chkLosePosition]
@[simp] theorem State.losePosition_pos_lastTime (s : State) :
    (s.losePosition).pos.lastTime = s.pos.lastTime := by simp only [State.losePosition, State.chkLosePosition]

@[simp] theorem State.regReset_pos (s : State) : (s.regReset).pos = s.pos := rfl
@[simp] theorem State.regReset_store (s : State) : (s.regReset).store = s.store := rfl
@[simp] theorem State.regReset_trq (s : State) : (s.regReset).trq = s.trq := rfl
@[simp] theorem State.regReset_cam (s : State) : (s.regReset).cam = s.cam := rfl
@[simp] theorem State.regReset_chk (s : State) : (s.regReset).chk = s.chk := rfl
@[simp] theorem State.regReset_lot (s : State) : (s.regReset).lot = s.lot := rfl
@[simp] theorem State.regReset_sup (s : State) : (s.regReset).sup = s.sup := rfl
@[simp] theorem State.regReset_rif (s : State) : (s.regReset).rif = s.rif := rfl
@[simp] theorem State.regReset_free (s : State) : (s.regReset).free = s.free := rfl
@[simp] theorem State.regReset_pending (s : State) : (s.regReset).pending = s.pending := rfl

@[simp] theorem State.resetBlocks_pos (s : State) : (s.resetBlocks).pos = s.pos := by simp [State.resetBlocks]
@[simp] theorem State.resetBlocks_store (s : State) : (s.resetBlocks).store = s.store := by simp [State.resetBlocks]
@[simp] theorem State.resetBlocks_sup (s : State) : (s.resetBlocks).sup = s.sup := by simp [State.resetBlocks]
@[simp] theorem State.resetBlocks_rif (s : State) : (s.resetBlocks).rif = s.rif := by simp [State.resetBlocks]
@[simp] theorem State.resetBlocks_free (s : State) : (s.resetBlocks).free = s.free := by simp [State.resetBlocks]
@[simp] theorem State.resetBlocks_pending (s : State) :
    (s.resetBlocks).pending = s.pending := by simp [State.resetBlocks]
@[simp] theorem State.resetBlocks_trq_serial (s : State) :
    (s.resetBlocks).trq.serial = s.trq.serial := by simp [State.resetBlocks]

end Sys2Proof.Machine
end

