-- ==== Sys2Proof/Laws/Ops.lean ====
section
/-! SUPPORT. What each shared operation can do, said once: counters, the arbiter, notices, faults, outbound frames, halts,
stops and the service of a request. -/

namespace Sys2Proof.Machine

/-! ### Tables and counters -/

/-- A table changed at one place. -/
theorem updateAt_get {α : Type} {n : Nat} (v : Vector α n) (i j : Fin n) (f : α → α) :
    (updateAt v i f).get j = if j = i then f (v.get i) else v.get j := by
  rcases i with ⟨i, hi⟩
  rcases j with ⟨j, hj⟩
  have get : ∀ (w : Vector α n) (k : Nat) (hk : k < n), w.get ⟨k, hk⟩ = w[k] := fun _ _ _ => rfl
  simp only [updateAt, get, Vector.getElem_set, Fin.mk.injEq, eq_comm]

/-- A table with one place set. -/
theorem set_get {α : Type} {n : Nat} (v : Vector α n) (i j : Fin n) (x : α) :
    (v.set i x).get j = if j = i then x else v.get j := by
  have h := updateAt_get v i j (fun _ => x)
  simpa [updateAt] using h

/-- The changed channel and the others. -/
theorem State.setCam_camChannel (c d : Fin 24) (f : CamChannel → CamChannel) (s : State) :
    (s.setCam c f).camChannel d = if d = c then f (s.camChannel c) else s.camChannel d := updateAt_get s.cam c d f

/-- The changed input and the others. -/
theorem State.setChk_chkInput (i j : Fin 16) (f : ChkInput → ChkInput) (s : State) :
    (s.setChk i f).chkInput j = if j = i then f (s.chkInput i) else s.chkInput j := updateAt_get s.chk i j f

/-- The changed format and the others. -/
theorem State.setFormat_format (i j : Fin 16) (f : Format → Format) (s : State) :
    (s.setFormat i f).format j = if j = i then f (s.format i) else s.format j := updateAt_get s.store.formats i j f

/-- An increment moves one counter. -/
theorem State.bump_counters (c d : Fin 38) (s : State) :
    (s.bump c).sup.counters.get d = if d = c then saturate (s.sup.counters.get c) else s.sup.counters.get d :=
  updateAt_get s.sup.counters c d saturate

/-- A counter at most 65,535 stays so. -/
theorem saturate_le (n : Nat) (h : n ≤ 65535) : saturate n ≤ 65535 := by unfold saturate; split <;> omega

@[simp] theorem State.bumpIf_pos (p : Bool) (c : Fin 38) (s : State) :
    (s.bumpIf p c).pos = s.pos := by cases p <;> rfl
@[simp] theorem State.bumpIf_store (p : Bool) (c : Fin 38) (s : State) :
    (s.bumpIf p c).store = s.store := by cases p <;> rfl
@[simp] theorem State.bumpIf_reg (p : Bool) (c : Fin 38) (s : State) :
    (s.bumpIf p c).reg = s.reg := by cases p <;> rfl
@[simp] theorem State.bumpIf_trq (p : Bool) (c : Fin 38) (s : State) :
    (s.bumpIf p c).trq = s.trq := by cases p <;> rfl
@[simp] theorem State.bumpIf_cam (p : Bool) (c : Fin 38) (s : State) :
    (s.bumpIf p c).cam = s.cam := by cases p <;> rfl
@[simp] theorem State.bumpIf_chk (p : Bool) (c : Fin 38) (s : State) :
    (s.bumpIf p c).chk = s.chk := by cases p <;> rfl
@[simp] theorem State.bumpIf_lot (p : Bool) (c : Fin 38) (s : State) :
    (s.bumpIf p c).lot = s.lot := by cases p <;> rfl
@[simp] theorem State.bumpIf_free (p : Bool) (c : Fin 38) (s : State) :
    (s.bumpIf p c).free = s.free := by cases p <;> rfl
@[simp] theorem State.bumpIf_pending (p : Bool) (c : Fin 38) (s : State) :
    (s.bumpIf p c).pending = s.pending := by cases p <;> rfl
@[simp] theorem State.bumpIf_rif (p : Bool) (c : Fin 38) (s : State) :
    (s.bumpIf p c).rif = s.rif := by cases p <;> rfl
@[simp] theorem State.bumpIf_sup_line (p : Bool) (c : Fin 38) (s : State) :
    (s.bumpIf p c).sup.line = s.sup.line := by cases p <;> rfl
@[simp] theorem State.bumpIf_sup_reason (p : Bool) (c : Fin 38) (s : State) :
    (s.bumpIf p c).sup.reason = s.sup.reason := by cases p <;> rfl
@[simp] theorem State.bumpIf_sup_lastSequence (p : Bool) (c : Fin 38) (s : State) :
    (s.bumpIf p c).sup.lastSequence = s.sup.lastSequence := by cases p <;> rfl
@[simp] theorem State.bumpIf_sup_log (p : Bool) (c : Fin 38) (s : State) :
    (s.bumpIf p c).sup.log = s.sup.log := by cases p <;> rfl
@[simp] theorem State.bumpIf_sup_overflow (p : Bool) (c : Fin 38) (s : State) :
    (s.bumpIf p c).sup.overflow = s.sup.overflow := by cases p <;> rfl
@[simp] theorem State.bumpIf_sup_deferred (p : Bool) (c : Fin 38) (s : State) :
    (s.bumpIf p c).sup.deferred = s.sup.deferred := by cases p <;> rfl

/-! ### The transmitter and the queues (R173 to R175) -/

/-- A busy transmitter is left alone. -/
theorem Rif.arbitrate_busy (r : Rif) (h : r.tx ≠ .idle) : r.arbitrate = r := by
  unfold Rif.arbitrate
  split
  · rfl
  · contradiction

/-- Handing over moves heads only: what waits afterwards is a tail of what waited, and only the transmitter and the overrun
mark change beside. -/
theorem Rif.arbitrate_cases (r : Rif) :
    ∃ fwd out mgmt tx mark, r.arbitrate = { r with
        forward := fwd, outbound := out, management := mgmt, tx := tx, overrun := mark } ∧
      fwd <:+ r.forward ∧ out <:+ r.outbound ∧ mgmt <:+ r.management ∧ (mark = r.overrun ∨ mark = false) := by
  unfold Rif.arbitrate Rif.arbitrateOwn Rif.arbitrateManagement
  repeat' split
  all_goals first
    | exact ⟨_, _, _, _, _, rfl, by simp_all, by simp_all, by simp_all, by simp_all⟩

@[simp] theorem Rif.arbitrate_own (r : Rif) :
    r.arbitrate.own = r.own := by
  obtain ⟨_, _, _, _, _, h, _⟩ := r.arbitrate_cases; rw [h]
@[simp] theorem Rif.arbitrate_linkUp (r : Rif) :
    r.arbitrate.linkUp = r.linkUp := by
  obtain ⟨_, _, _, _, _, h, _⟩ := r.arbitrate_cases; rw [h]
@[simp] theorem Rif.arbitrate_linkDownFlag (r : Rif) :
    r.arbitrate.linkDownFlag = r.linkDownFlag := by
  obtain ⟨_, _, _, _, _, h, _⟩ := r.arbitrate_cases; rw [h]
@[simp] theorem Rif.arbitrate_partialBytes (r : Rif) :
    r.arbitrate.partialBytes = r.partialBytes := by
  obtain ⟨_, _, _, _, _, h, _⟩ := r.arbitrate_cases; rw [h]
@[simp] theorem Rif.arbitrate_reserved (r : Rif) :
    r.arbitrate.reserved = r.reserved := by
  obtain ⟨_, _, _, _, _, h, _⟩ := r.arbitrate_cases; rw [h]

@[simp] theorem Rif.forwardFrame_own (r : Rif) (f : List Byte) :
    (r.forwardFrame f).own = r.own := by simp [Rif.forwardFrame]
@[simp] theorem Rif.forwardFrame_linkUp (r : Rif) (f : List Byte) :
    (r.forwardFrame f).linkUp = r.linkUp := by simp [Rif.forwardFrame]
@[simp] theorem Rif.forwardFrame_linkDownFlag (r : Rif) (f : List Byte) :
    (r.forwardFrame f).linkDownFlag = r.linkDownFlag := by simp [Rif.forwardFrame]
@[simp] theorem Rif.forwardFrame_partialBytes (r : Rif) (f : List Byte) :
    (r.forwardFrame f).partialBytes = r.partialBytes := by simp [Rif.forwardFrame]
@[simp] theorem Rif.forwardFrame_reserved (r : Rif) (f : List Byte) :
    (r.forwardFrame f).reserved = r.reserved := by simp [Rif.forwardFrame]

@[simp] theorem Rif.pushManagement_own (r : Rif) (f : MgmtFrame) :
    (r.pushManagement f).own = r.own := by simp [Rif.pushManagement]
@[simp] theorem Rif.pushManagement_linkUp (r : Rif) (f : MgmtFrame) :
    (r.pushManagement f).linkUp = r.linkUp := by simp [Rif.pushManagement]
@[simp] theorem Rif.pushManagement_linkDownFlag (r : Rif) (f : MgmtFrame) :
    (r.pushManagement f).linkDownFlag = r.linkDownFlag := by simp [Rif.pushManagement]
@[simp] theorem Rif.pushManagement_partialBytes (r : Rif) (f : MgmtFrame) :
    (r.pushManagement f).partialBytes = r.partialBytes := by simp [Rif.pushManagement]
@[simp] theorem Rif.pushManagement_reserved (r : Rif) (f : MgmtFrame) :
    (r.pushManagement f).reserved = r.reserved := by simp [Rif.pushManagement]

@[simp] theorem Rif.pushOutbound_own (r : Rif) (f : OutFrame) :
    (r.pushOutbound f).own = r.own := by simp [Rif.pushOutbound]
@[simp] theorem Rif.pushOutbound_linkUp (r : Rif) (f : OutFrame) :
    (r.pushOutbound f).linkUp = r.linkUp := by simp [Rif.pushOutbound]
@[simp] theorem Rif.pushOutbound_linkDownFlag (r : Rif) (f : OutFrame) :
    (r.pushOutbound f).linkDownFlag = r.linkDownFlag := by simp [Rif.pushOutbound]
@[simp] theorem Rif.pushOutbound_partialBytes (r : Rif) (f : OutFrame) :
    (r.pushOutbound f).partialBytes = r.partialBytes := by simp [Rif.pushOutbound]
@[simp] theorem Rif.pushOutbound_reserved (r : Rif) (f : OutFrame) :
    (r.pushOutbound f).reserved = r.reserved := by simp [Rif.pushOutbound]

/-- A frame joins the management queue of a busy transmitter at the tail. -/
theorem Rif.pushManagement_busy (r : Rif) (f : MgmtFrame) (h : r.tx ≠ .idle) :
    r.pushManagement f = { r with management := r.management ++ [f] } := Rif.arbitrate_busy _ h

/-- A frame joins the outbound queue of a busy transmitter at the tail. -/
theorem Rif.pushOutbound_busy (r : Rif) (f : OutFrame) (h : r.tx ≠ .idle) :
    r.pushOutbound f = { r with outbound := r.outbound ++ [f] } := Rif.arbitrate_busy _ h

/-- A queue grows by at most the frame that joins. -/
theorem Rif.pushManagement_length (r : Rif) (f : MgmtFrame) :
    (r.pushManagement f).management.length ≤ r.management.length + 1 ∧ (r.pushManagement f).outbound.length ≤ r.outbound.length := by
  obtain ⟨_, _, _, _, _, h, -, h2, h3, -⟩ := Rif.arbitrate_cases { r with management := r.management ++ [f] }
  unfold Rif.pushManagement
  rw [h]
  exact ⟨by simpa using h3.length_le, h2.length_le⟩

/-- A queue grows by at most the frame that joins. -/
theorem Rif.pushOutbound_length (r : Rif) (f : OutFrame) :
    (r.pushOutbound f).outbound.length ≤ r.outbound.length + 1 ∧ (r.pushOutbound f).management.length ≤ r.management.length := by
  obtain ⟨_, _, _, _, _, h, -, h2, h3, -⟩ := Rif.arbitrate_cases { r with outbound := r.outbound ++ [f] }
  unfold Rif.pushOutbound
  rw [h]
  exact ⟨by simpa using h2.length_le, h3.length_le⟩

/-- Forwarding leaves the own queues no longer than they were. -/
theorem Rif.forwardFrame_length (r : Rif) (f : List Byte) :
    (r.forwardFrame f).outbound.length ≤ r.outbound.length ∧ (r.forwardFrame f).management.length ≤ r.management.length := by
  obtain ⟨_, _, _, _, _, h, -, h2, h3, -⟩ := Rif.arbitrate_cases { r with forward := r.forward ++ [f] }
  unfold Rif.forwardFrame
  rw [h]
  exact ⟨h2.length_le, h3.length_le⟩

/-! ### Notices (R167, R175) -/

/-- A notice changes the wire, or, without a place, one counter. -/
theorem State.notice_cases (n : Notice) (s : State) :
    (0 < s.rif.freePlaces ∧ s.notice n = { s with rif := s.rif.pushManagement (.notice s.settings.noticeAddress n) }) ∨
      (s.rif.freePlaces = 0 ∧ s.notice n = s.bump ctrNoticesDropped) := by
  unfold State.notice
  split
  · exact .inl ⟨‹_›, rfl⟩
  · exact .inr ⟨by omega, rfl⟩

@[simp] theorem State.notice_pos (n : Notice) (s : State) :
    (s.notice n).pos = s.pos := by
  rcases s.notice_cases n with ⟨-, h⟩ | ⟨-, h⟩ <;> simp [h]
@[simp] theorem State.notice_store (n : Notice) (s : State) :
    (s.notice n).store = s.store := by
  rcases s.notice_cases n with ⟨-, h⟩ | ⟨-, h⟩ <;> simp [h]
@[simp] theorem State.notice_reg (n : Notice) (s : State) :
    (s.notice n).reg = s.reg := by
  rcases s.notice_cases n with ⟨-, h⟩ | ⟨-, h⟩ <;> simp [h]
@[simp] theorem State.notice_trq (n : Notice) (s : State) :
    (s.notice n).trq = s.trq := by
  rcases s.notice_cases n with ⟨-, h⟩ | ⟨-, h⟩ <;> simp [h]
@[simp] theorem State.notice_cam (n : Notice) (s : State) :
    (s.notice n).cam = s.cam := by
  rcases s.notice_cases n with ⟨-, h⟩ | ⟨-, h⟩ <;> simp [h]
@[simp] theorem State.notice_chk (n : Notice) (s : State) :
    (s.notice n).chk = s.chk := by
  rcases s.notice_cases n with ⟨-, h⟩ | ⟨-, h⟩ <;> simp [h]
@[simp] theorem State.notice_lot (n : Notice) (s : State) :
    (s.notice n).lot = s.lot := by
  rcases s.notice_cases n with ⟨-, h⟩ | ⟨-, h⟩ <;> simp [h]
@[simp] theorem State.notice_free (n : Notice) (s : State) :
    (s.notice n).free = s.free := by
  rcases s.notice_cases n with ⟨-, h⟩ | ⟨-, h⟩ <;> simp [h]
@[simp] theorem State.notice_pending (n : Notice) (s : State) :
    (s.notice n).pending = s.pending := by
  rcases s.notice_cases n with ⟨-, h⟩ | ⟨-, h⟩ <;> simp [h]
@[simp] theorem State.notice_sup_line (n : Notice) (s : State) :
    (s.notice n).sup.line = s.sup.line := by
  rcases s.notice_cases n with ⟨-, h⟩ | ⟨-, h⟩ <;> simp [h]
@[simp] theorem State.notice_sup_reason (n : Notice) (s : State) :
    (s.notice n).sup.reason = s.sup.reason := by
  rcases s.notice_cases n with ⟨-, h⟩ | ⟨-, h⟩ <;> simp [h]
@[simp] theorem State.notice_sup_lastSequence (n : Notice) (s : State) :
    (s.notice n).sup.lastSequence = s.sup.lastSequence := by
  rcases s.notice_cases n with ⟨-, h⟩ | ⟨-, h⟩ <;> simp [h]
@[simp] theorem State.notice_sup_log (n : Notice) (s : State) :
    (s.notice n).sup.log = s.sup.log := by
  rcases s.notice_cases n with ⟨-, h⟩ | ⟨-, h⟩ <;> simp [h]
@[simp] theorem State.notice_sup_overflow (n : Notice) (s : State) :
    (s.notice n).sup.overflow = s.sup.overflow := by
  rcases s.notice_cases n with ⟨-, h⟩ | ⟨-, h⟩ <;> simp [h]
@[simp] theorem State.notice_sup_deferred (n : Notice) (s : State) :
    (s.notice n).sup.deferred = s.sup.deferred := by
  rcases s.notice_cases n with ⟨-, h⟩ | ⟨-, h⟩ <;> simp [h]
@[simp] theorem State.notice_rif_own (n : Notice) (s : State) :
    (s.notice n).rif.own = s.rif.own := by
  rcases s.notice_cases n with ⟨-, h⟩ | ⟨-, h⟩ <;> simp [h]
@[simp] theorem State.notice_rif_linkUp (n : Notice) (s : State) :
    (s.notice n).rif.linkUp = s.rif.linkUp := by
  rcases s.notice_cases n with ⟨-, h⟩ | ⟨-, h⟩ <;> simp [h]
@[simp] theorem State.notice_rif_linkDownFlag (n : Notice) (s : State) :
    (s.notice n).rif.linkDownFlag = s.rif.linkDownFlag := by
  rcases s.notice_cases n with ⟨-, h⟩ | ⟨-, h⟩ <;> simp [h]
@[simp] theorem State.notice_rif_partialBytes (n : Notice) (s : State) :
    (s.notice n).rif.partialBytes = s.rif.partialBytes := by
  rcases s.notice_cases n with ⟨-, h⟩ | ⟨-, h⟩ <;> simp [h]
@[simp] theorem State.notice_rif_reserved (n : Notice) (s : State) :
    (s.notice n).rif.reserved = s.rif.reserved := by
  rcases s.notice_cases n with ⟨-, h⟩ | ⟨-, h⟩ <;> simp [h]

/-! ### Faults (R159) -/

@[simp] theorem State.raiseAt_pos (k : FaultKind) (e : Effect) (p : Nat) (d : Detail) (s : State) :
    (s.raiseAt k e p d).pos = s.pos := by simp [State.raiseAt]
@[simp] theorem State.raiseAt_store (k : FaultKind) (e : Effect) (p : Nat) (d : Detail) (s : State) :
    (s.raiseAt k e p d).store = s.store := by simp [State.raiseAt]
@[simp] theorem State.raiseAt_reg (k : FaultKind) (e : Effect) (p : Nat) (d : Detail) (s : State) :
    (s.raiseAt k e p d).reg = s.reg := by simp [State.raiseAt]
@[simp] theorem State.raiseAt_trq (k : FaultKind) (e : Effect) (p : Nat) (d : Detail) (s : State) :
    (s.raiseAt k e p d).trq = s.trq := by simp [State.raiseAt]
@[simp] theorem State.raiseAt_cam (k : FaultKind) (e : Effect) (p : Nat) (d : Detail) (s : State) :
    (s.raiseAt k e p d).cam = s.cam := by simp [State.raiseAt]
@[simp] theorem State.raiseAt_chk (k : FaultKind) (e : Effect) (p : Nat) (d : Detail) (s : State) :
    (s.raiseAt k e p d).chk = s.chk := by simp [State.raiseAt]
@[simp] theorem State.raiseAt_lot (k : FaultKind) (e : Effect) (p : Nat) (d : Detail) (s : State) :
    (s.raiseAt k e p d).lot = s.lot := by simp [State.raiseAt]
@[simp] theorem State.raiseAt_free (k : FaultKind) (e : Effect) (p : Nat) (d : Detail) (s : State) :
    (s.raiseAt k e p d).free = s.free := by simp [State.raiseAt]
@[simp] theorem State.raiseAt_pending (k : FaultKind) (e : Effect) (p : Nat) (d : Detail) (s : State) :
    (s.raiseAt k e p d).pending = s.pending := by simp [State.raiseAt]
@[simp] theorem State.raiseAt_sup_line (k : FaultKind) (e : Effect) (p : Nat) (d : Detail) (s : State) :
    (s.raiseAt k e p d).sup.line = s.sup.line := by simp [State.raiseAt]
@[simp] theorem State.raiseAt_sup_reason (k : FaultKind) (e : Effect) (p : Nat) (d : Detail) (s : State) :
    (s.raiseAt k e p d).sup.reason = s.sup.reason := by simp [State.raiseAt]
@[simp] theorem State.raiseAt_rif_own (k : FaultKind) (e : Effect) (p : Nat) (d : Detail) (s : State) :
    (s.raiseAt k e p d).rif.own = s.rif.own := by simp [State.raiseAt]
@[simp] theorem State.raiseAt_rif_linkUp (k : FaultKind) (e : Effect) (p : Nat) (d : Detail) (s : State) :
    (s.raiseAt k e p d).rif.linkUp = s.rif.linkUp := by simp [State.raiseAt]
@[simp] theorem State.raiseAt_rif_linkDownFlag (k : FaultKind) (e : Effect) (p : Nat) (d : Detail) (s : State) :
    (s.raiseAt k e p d).rif.linkDownFlag = s.rif.linkDownFlag := by simp [State.raiseAt]
@[simp] theorem State.raiseAt_rif_partialBytes (k : FaultKind) (e : Effect) (p : Nat) (d : Detail) (s : State) :
    (s.raiseAt k e p d).rif.partialBytes = s.rif.partialBytes := by simp [State.raiseAt]
@[simp] theorem State.raiseAt_rif_reserved (k : FaultKind) (e : Effect) (p : Nat) (d : Detail) (s : State) :
    (s.raiseAt k e p d).rif.reserved = s.rif.reserved := by simp [State.raiseAt]

/-- A fault's effect waits behind those reported before it. -/
@[simp] theorem State.raiseAt_sup_deferred (k : FaultKind) (e : Effect) (p : Nat) (d : Detail) (s : State) :
    (s.raiseAt k e p d).sup.deferred = s.sup.deferred ++ effectOf e (s.raiseAt k e p d).sup.lastSequence := by
  simp [State.raiseAt]

/-- The sequence of a fault is the next one, and the last one stays the last (R159 step 1). -/
@[simp] theorem State.raiseAt_sup_lastSequence (k : FaultKind) (e : Effect) (p : Nat) (d : Detail) (s : State) :
    (s.raiseAt k e p d).sup.lastSequence =
      if s.sup.lastSequence = 4294967295 then s.sup.lastSequence else s.sup.lastSequence + 1 := by
  simp [State.raiseAt]

/-- The log of a fault (R159 step 2). -/
theorem State.raiseAt_log (k : FaultKind) (e : Effect) (p : Nat) (d : Detail) (s : State) :
    (s.raiseAt k e p d).sup.log =
      if s.sup.lastSequence ≠ 4294967295 ∧ s.sup.log.length < 16 then
        s.sup.log ++ [⟨s.sup.lastSequence + 1, k, e, s.sup.line, p, d⟩]
      else s.sup.log := by
  simp only [State.raiseAt, State.notice_sup_log]
  by_cases h : s.sup.lastSequence = 4294967295 <;> by_cases h2 : s.sup.log.length < 16 <;> simp [h, h2]

@[simp] theorem State.raise_pos (k : FaultKind) (e : Effect) (d : Detail) (s : State) :
    (s.raise k e d).pos = s.pos := by simp [State.raise]
@[simp] theorem State.raise_store (k : FaultKind) (e : Effect) (d : Detail) (s : State) :
    (s.raise k e d).store = s.store := by simp [State.raise]
@[simp] theorem State.raise_reg (k : FaultKind) (e : Effect) (d : Detail) (s : State) :
    (s.raise k e d).reg = s.reg := by simp [State.raise]
@[simp] theorem State.raise_trq (k : FaultKind) (e : Effect) (d : Detail) (s : State) :
    (s.raise k e d).trq = s.trq := by simp [State.raise]
@[simp] theorem State.raise_cam (k : FaultKind) (e : Effect) (d : Detail) (s : State) :
    (s.raise k e d).cam = s.cam := by simp [State.raise]
@[simp] theorem State.raise_chk (k : FaultKind) (e : Effect) (d : Detail) (s : State) :
    (s.raise k e d).chk = s.chk := by simp [State.raise]
@[simp] theorem State.raise_lot (k : FaultKind) (e : Effect) (d : Detail) (s : State) :
    (s.raise k e d).lot = s.lot := by simp [State.raise]
@[simp] theorem State.raise_free (k : FaultKind) (e : Effect) (d : Detail) (s : State) :
    (s.raise k e d).free = s.free := by simp [State.raise]
@[simp] theorem State.raise_pending (k : FaultKind) (e : Effect) (d : Detail) (s : State) :
    (s.raise k e d).pending = s.pending := by simp [State.raise]
@[simp] theorem State.raise_sup_line (k : FaultKind) (e : Effect) (d : Detail) (s : State) :
    (s.raise k e d).sup.line = s.sup.line := by simp [State.raise]
@[simp] theorem State.raise_sup_reason (k : FaultKind) (e : Effect) (d : Detail) (s : State) :
    (s.raise k e d).sup.reason = s.sup.reason := by simp [State.raise]
@[simp] theorem State.raise_rif_own (k : FaultKind) (e : Effect) (d : Detail) (s : State) :
    (s.raise k e d).rif.own = s.rif.own := by simp [State.raise]
@[simp] theorem State.raise_rif_linkUp (k : FaultKind) (e : Effect) (d : Detail) (s : State) :
    (s.raise k e d).rif.linkUp = s.rif.linkUp := by simp [State.raise]
@[simp] theorem State.raise_rif_linkDownFlag (k : FaultKind) (e : Effect) (d : Detail) (s : State) :
    (s.raise k e d).rif.linkDownFlag = s.rif.linkDownFlag := by simp [State.raise]
@[simp] theorem State.raise_rif_partialBytes (k : FaultKind) (e : Effect) (d : Detail) (s : State) :
    (s.raise k e d).rif.partialBytes = s.rif.partialBytes := by simp [State.raise]
@[simp] theorem State.raise_rif_reserved (k : FaultKind) (e : Effect) (d : Detail) (s : State) :
    (s.raise k e d).rif.reserved = s.rif.reserved := by simp [State.raise]

/-! ### Outbound frames (R174) -/

/-- A frame that is placed, a frame lost to a marked overrun, and the first loss. -/
theorem State.placeOutbound_cases (f : OutFrame) (s : State) :
    (s.rif.outbound.length < 64 ∧ s.placeOutbound f = { s with rif := s.rif.pushOutbound f }) ∨
      (64 ≤ s.rif.outbound.length ∧ s.rif.overrun = true ∧ s.placeOutbound f = s) ∨
      (64 ≤ s.rif.outbound.length ∧ s.rif.overrun = false ∧ s.placeOutbound f =
        { s with rif := { s.rif with overrun := true } }.raise .outboundOverrun .safe (.number f.kind.toNat)) := by
  unfold State.placeOutbound
  split
  · exact .inl ⟨‹_›, rfl⟩
  · split
    · exact .inr (.inl ⟨Nat.le_of_not_lt ‹_›, ‹_›, rfl⟩)
    · exact .inr (.inr ⟨Nat.le_of_not_lt ‹_›, Bool.eq_false_iff.mpr ‹_›, rfl⟩)

/-- A frame with a place is placed. -/
theorem State.placeOutbound_room (f : OutFrame) (s : State) (h : s.rif.outbound.length < 64) :
    s.placeOutbound f = { s with rif := s.rif.pushOutbound f } := if_pos h

@[simp] theorem State.placeOutbound_pos (o : OutFrame) (s : State) :
    (s.placeOutbound o).pos = s.pos := by
  rcases s.placeOutbound_cases o with ⟨-, h⟩ | ⟨-, -, h⟩ | ⟨-, -, h⟩ <;> simp [h]
@[simp] theorem State.placeOutbound_store (o : OutFrame) (s : State) :
    (s.placeOutbound o).store = s.store := by
  rcases s.placeOutbound_cases o with ⟨-, h⟩ | ⟨-, -, h⟩ | ⟨-, -, h⟩ <;> simp [h]
@[simp] theorem State.placeOutbound_reg (o : OutFrame) (s : State) :
    (s.placeOutbound o).reg = s.reg := by
  rcases s.placeOutbound_cases o with ⟨-, h⟩ | ⟨-, -, h⟩ | ⟨-, -, h⟩ <;> simp [h]
@[simp] theorem State.placeOutbound_trq (o : OutFrame) (s : State) :
    (s.placeOutbound o).trq = s.trq := by
  rcases s.placeOutbound_cases o with ⟨-, h⟩ | ⟨-, -, h⟩ | ⟨-, -, h⟩ <;> simp [h]
@[simp] theorem State.placeOutbound_cam (o : OutFrame) (s : State) :
    (s.placeOutbound o).cam = s.cam := by
  rcases s.placeOutbound_cases o with ⟨-, h⟩ | ⟨-, -, h⟩ | ⟨-, -, h⟩ <;> simp [h]
@[simp] theorem State.placeOutbound_chk (o : OutFrame) (s : State) :
    (s.placeOutbound o).chk = s.chk := by
  rcases s.placeOutbound_cases o with ⟨-, h⟩ | ⟨-, -, h⟩ | ⟨-, -, h⟩ <;> simp [h]
@[simp] theorem State.placeOutbound_lot (o : OutFrame) (s : State) :
    (s.placeOutbound o).lot = s.lot := by
  rcases s.placeOutbound_cases o with ⟨-, h⟩ | ⟨-, -, h⟩ | ⟨-, -, h⟩ <;> simp [h]
@[simp] theorem State.placeOutbound_free (o : OutFrame) (s : State) :
    (s.placeOutbound o).free = s.free := by
  rcases s.placeOutbound_cases o with ⟨-, h⟩ | ⟨-, -, h⟩ | ⟨-, -, h⟩ <;> simp [h]
@[simp] theorem State.placeOutbound_pending (o : OutFrame) (s : State) :
    (s.placeOutbound o).pending = s.pending := by
  rcases s.placeOutbound_cases o with ⟨-, h⟩ | ⟨-, -, h⟩ | ⟨-, -, h⟩ <;> simp [h]
@[simp] theorem State.placeOutbound_sup_line (o : OutFrame) (s : State) :
    (s.placeOutbound o).sup.line = s.sup.line := by
  rcases s.placeOutbound_cases o with ⟨-, h⟩ | ⟨-, -, h⟩ | ⟨-, -, h⟩ <;> simp [h]
@[simp] theorem State.placeOutbound_sup_reason (o : OutFrame) (s : State) :
    (s.placeOutbound o).sup.reason = s.sup.reason := by
  rcases s.placeOutbound_cases o with ⟨-, h⟩ | ⟨-, -, h⟩ | ⟨-, -, h⟩ <;> simp [h]
@[simp] theorem State.placeOutbound_rif_own (o : OutFrame) (s : State) :
    (s.placeOutbound o).rif.own = s.rif.own := by
  rcases s.placeOutbound_cases o with ⟨-, h⟩ | ⟨-, -, h⟩ | ⟨-, -, h⟩ <;> simp [h]
@[simp] theorem State.placeOutbound_rif_linkUp (o : OutFrame) (s : State) :
    (s.placeOutbound o).rif.linkUp = s.rif.linkUp := by
  rcases s.placeOutbound_cases o with ⟨-, h⟩ | ⟨-, -, h⟩ | ⟨-, -, h⟩ <;> simp [h]
@[simp] theorem State.placeOutbound_rif_linkDownFlag (o : OutFrame) (s : State) :
    (s.placeOutbound o).rif.linkDownFlag = s.rif.linkDownFlag := by
  rcases s.placeOutbound_cases o with ⟨-, h⟩ | ⟨-, -, h⟩ | ⟨-, -, h⟩ <;> simp [h]
@[simp] theorem State.placeOutbound_rif_partialBytes (o : OutFrame) (s : State) :
    (s.placeOutbound o).rif.partialBytes = s.rif.partialBytes := by
  rcases s.placeOutbound_cases o with ⟨-, h⟩ | ⟨-, -, h⟩ | ⟨-, -, h⟩ <;> simp [h]
@[simp] theorem State.placeOutbound_rif_reserved (o : OutFrame) (s : State) :
    (s.placeOutbound o).rif.reserved = s.rif.reserved := by
  rcases s.placeOutbound_cases o with ⟨-, h⟩ | ⟨-, -, h⟩ | ⟨-, -, h⟩ <;> simp [h]

@[simp] theorem State.placeDrive_pos (c : DriveCommand) (s : State) :
    (s.placeDrive c).pos = s.pos := by simp [State.placeDrive]
@[simp] theorem State.placeDrive_store (c : DriveCommand) (s : State) :
    (s.placeDrive c).store = s.store := by simp [State.placeDrive]
@[simp] theorem State.placeDrive_reg (c : DriveCommand) (s : State) :
    (s.placeDrive c).reg = s.reg := by simp [State.placeDrive]
@[simp] theorem State.placeDrive_trq (c : DriveCommand) (s : State) :
    (s.placeDrive c).trq = s.trq := by simp [State.placeDrive]
@[simp] theorem State.placeDrive_cam (c : DriveCommand) (s : State) :
    (s.placeDrive c).cam = s.cam := by simp [State.placeDrive]
@[simp] theorem State.placeDrive_chk (c : DriveCommand) (s : State) :
    (s.placeDrive c).chk = s.chk := by simp [State.placeDrive]
@[simp] theorem State.placeDrive_lot (c : DriveCommand) (s : State) :
    (s.placeDrive c).lot = s.lot := by simp [State.placeDrive]
@[simp] theorem State.placeDrive_free (c : DriveCommand) (s : State) :
    (s.placeDrive c).free = s.free := by simp [State.placeDrive]
@[simp] theorem State.placeDrive_pending (c : DriveCommand) (s : State) :
    (s.placeDrive c).pending = s.pending := by simp [State.placeDrive]
@[simp] theorem State.placeDrive_sup_line (c : DriveCommand) (s : State) :
    (s.placeDrive c).sup.line = s.sup.line := by simp [State.placeDrive]
@[simp] theorem State.placeDrive_sup_reason (c : DriveCommand) (s : State) :
    (s.placeDrive c).sup.reason = s.sup.reason := by simp [State.placeDrive]
@[simp] theorem State.placeDrive_rif_own (c : DriveCommand) (s : State) :
    (s.placeDrive c).rif.own = s.rif.own := by simp [State.placeDrive]
@[simp] theorem State.placeDrive_rif_linkUp (c : DriveCommand) (s : State) :
    (s.placeDrive c).rif.linkUp = s.rif.linkUp := by simp [State.placeDrive]
@[simp] theorem State.placeDrive_rif_linkDownFlag (c : DriveCommand) (s : State) :
    (s.placeDrive c).rif.linkDownFlag = s.rif.linkDownFlag := by simp [State.placeDrive]
@[simp] theorem State.placeDrive_rif_partialBytes (c : DriveCommand) (s : State) :
    (s.placeDrive c).rif.partialBytes = s.rif.partialBytes := by simp [State.placeDrive]
@[simp] theorem State.placeDrive_rif_reserved (c : DriveCommand) (s : State) :
    (s.placeDrive c).rif.reserved = s.rif.reserved := by simp [State.placeDrive]

@[simp] theorem State.placeTrim_pos (s : State) : (s.placeTrim).pos = s.pos := by simp [State.placeTrim]
@[simp] theorem State.placeTrim_store (s : State) : (s.placeTrim).store = s.store := by simp [State.placeTrim]
@[simp] theorem State.placeTrim_reg (s : State) : (s.placeTrim).reg = s.reg := by simp [State.placeTrim]
@[simp] theorem State.placeTrim_trq (s : State) : (s.placeTrim).trq = s.trq := by simp [State.placeTrim]
@[simp] theorem State.placeTrim_cam (s : State) : (s.placeTrim).cam = s.cam := by simp [State.placeTrim]
@[simp] theorem State.placeTrim_chk (s : State) : (s.placeTrim).chk = s.chk := by simp [State.placeTrim]
@[simp] theorem State.placeTrim_lot (s : State) : (s.placeTrim).lot = s.lot := by simp [State.placeTrim]
@[simp] theorem State.placeTrim_free (s : State) : (s.placeTrim).free = s.free := by simp [State.placeTrim]
@[simp] theorem State.placeTrim_pending (s : State) : (s.placeTrim).pending = s.pending := by simp [State.placeTrim]
@[simp] theorem State.placeTrim_sup_line (s : State) :
    (s.placeTrim).sup.line = s.sup.line := by simp [State.placeTrim]
@[simp] theorem State.placeTrim_sup_reason (s : State) :
    (s.placeTrim).sup.reason = s.sup.reason := by simp [State.placeTrim]
@[simp] theorem State.placeTrim_rif_own (s : State) : (s.placeTrim).rif.own = s.rif.own := by simp [State.placeTrim]
@[simp] theorem State.placeTrim_rif_linkUp (s : State) :
    (s.placeTrim).rif.linkUp = s.rif.linkUp := by simp [State.placeTrim]
@[simp] theorem State.placeTrim_rif_linkDownFlag (s : State) :
    (s.placeTrim).rif.linkDownFlag = s.rif.linkDownFlag := by simp [State.placeTrim]
@[simp] theorem State.placeTrim_rif_partialBytes (s : State) :
    (s.placeTrim).rif.partialBytes = s.rif.partialBytes := by simp [State.placeTrim]
@[simp] theorem State.placeTrim_rif_reserved (s : State) :
    (s.placeTrim).rif.reserved = s.rif.reserved := by simp [State.placeTrim]

@[simp] theorem State.lineNotice_pos (p : LineState) (s : State) :
    (s.lineNotice p).pos = s.pos := by simp [State.lineNotice]
@[simp] theorem State.lineNotice_store (p : LineState) (s : State) :
    (s.lineNotice p).store = s.store := by simp [State.lineNotice]
@[simp] theorem State.lineNotice_reg (p : LineState) (s : State) :
    (s.lineNotice p).reg = s.reg := by simp [State.lineNotice]
@[simp] theorem State.lineNotice_trq (p : LineState) (s : State) :
    (s.lineNotice p).trq = s.trq := by simp [State.lineNotice]
@[simp] theorem State.lineNotice_cam (p : LineState) (s : State) :
    (s.lineNotice p).cam = s.cam := by simp [State.lineNotice]
@[simp] theorem State.lineNotice_chk (p : LineState) (s : State) :
    (s.lineNotice p).chk = s.chk := by simp [State.lineNotice]
@[simp] theorem State.lineNotice_lot (p : LineState) (s : State) :
    (s.lineNotice p).lot = s.lot := by simp [State.lineNotice]
@[simp] theorem State.lineNotice_free (p : LineState) (s : State) :
    (s.lineNotice p).free = s.free := by simp [State.lineNotice]
@[simp] theorem State.lineNotice_pending (p : LineState) (s : State) :
    (s.lineNotice p).pending = s.pending := by simp [State.lineNotice]
@[simp] theorem State.lineNotice_sup_line (p : LineState) (s : State) :
    (s.lineNotice p).sup.line = s.sup.line := by simp [State.lineNotice]
@[simp] theorem State.lineNotice_sup_reason (p : LineState) (s : State) :
    (s.lineNotice p).sup.reason = s.sup.reason := by simp [State.lineNotice]
@[simp] theorem State.lineNotice_rif_own (p : LineState) (s : State) :
    (s.lineNotice p).rif.own = s.rif.own := by simp [State.lineNotice]
@[simp] theorem State.lineNotice_rif_linkUp (p : LineState) (s : State) :
    (s.lineNotice p).rif.linkUp = s.rif.linkUp := by simp [State.lineNotice]
@[simp] theorem State.lineNotice_rif_linkDownFlag (p : LineState) (s : State) :
    (s.lineNotice p).rif.linkDownFlag = s.rif.linkDownFlag := by simp [State.lineNotice]
@[simp] theorem State.lineNotice_rif_partialBytes (p : LineState) (s : State) :
    (s.lineNotice p).rif.partialBytes = s.rif.partialBytes := by simp [State.lineNotice]
@[simp] theorem State.lineNotice_rif_reserved (p : LineState) (s : State) :
    (s.lineNotice p).rif.reserved = s.rif.reserved := by simp [State.lineNotice]

end Sys2Proof.Machine
end

