-- ==== Sys2Proof/Laws/Requests.lean ====
section
/-! SUPPORT. How a request is served, said once (R176): taken with room, dropped without, unheard while the link is DOWN. -/

namespace Sys2Proof.Machine

/-! ### The response's parts -/

/-- A reservation does not touch the third source. -/
theorem Rif.arbitrateManagement_reserve (r : Rif) (n : Nat) :
    ({ r with reserved := n } : Rif).arbitrateManagement = { r.arbitrateManagement with reserved := n } := by
  rcases r with ⟨own, up, flag, fwd, bytes, out, mark, mgmt, res, tx⟩
  unfold Rif.arbitrateManagement
  dsimp only
  cases mgmt with
  | nil => rfl
  | cons f rest =>
    by_cases h : frameLength f.payload ≤ (⟨own, up, flag, fwd, bytes, out, mark, f :: rest, res, tx⟩ : Rif).freeRoom
    · have g : frameLength f.payload ≤ (⟨own, up, flag, fwd, bytes, out, mark, f :: rest, n, tx⟩ : Rif).freeRoom := h
      dsimp only
      rw [if_pos g, if_pos h]
    · have g : ¬frameLength f.payload ≤ (⟨own, up, flag, fwd, bytes, out, mark, f :: rest, n, tx⟩ : Rif).freeRoom := h
      dsimp only
      rw [if_neg g, if_neg h]

/-- A reservation does not touch the second and third source. -/
theorem Rif.arbitrateOwn_reserve (r : Rif) (n : Nat) :
    ({ r with reserved := n } : Rif).arbitrateOwn = { r.arbitrateOwn with reserved := n } := by
  rcases r with ⟨own, up, flag, fwd, bytes, out, mark, mgmt, res, tx⟩
  unfold Rif.arbitrateOwn
  dsimp only
  cases out with
  | nil => exact Rif.arbitrateManagement_reserve ⟨own, up, flag, fwd, bytes, [], mark, mgmt, res, tx⟩ n
  | cons f rest =>
    by_cases h : frameLength f.payload ≤ (⟨own, up, flag, fwd, bytes, f :: rest, mark, mgmt, res, tx⟩ : Rif).freeRoom
    · have g : frameLength f.payload ≤ (⟨own, up, flag, fwd, bytes, f :: rest, mark, mgmt, n, tx⟩ : Rif).freeRoom := h
      dsimp only
      rw [if_pos g, if_pos h]
    · have g : ¬frameLength f.payload ≤ (⟨own, up, flag, fwd, bytes, f :: rest, mark, mgmt, n, tx⟩ : Rif).freeRoom := h
      dsimp only
      rw [if_neg g, if_neg h]
      exact Rif.arbitrateManagement_reserve ⟨own, up, flag, fwd, bytes, f :: rest, mark, mgmt, res, tx⟩ n

/-- A reservation does not touch the arbiter. -/
theorem Rif.arbitrate_reserve (r : Rif) (n : Nat) :
    ({ r with reserved := n } : Rif).arbitrate = { r.arbitrate with reserved := n } := by
  rcases r with ⟨own, up, flag, fwd, bytes, out, mark, mgmt, res, tx⟩
  cases tx with
  | sending _ _ => rfl
  | idle => cases fwd with
    | nil => exact Rif.arbitrateOwn_reserve ⟨own, up, flag, [], bytes, out, mark, mgmt, res, .idle⟩ n
    | cons _ _ => rfl

/-- A reservation does not touch the placing of a response. -/
theorem Rif.respond_reserve (r : Rif) (n : Nat) (dst code tag : Byte) (st : Status) (k : Nat) (parts : List (List Byte)) :
    ({ r with reserved := n } : Rif).respond dst code tag st k parts =
      { r.respond dst code tag st k parts with reserved := n } := by
  induction parts generalizing r k with
  | nil => rfl
  | cons p rest ih =>
    simp only [Rif.respond]
    rw [← ih]
    congr 1
    exact Rif.arbitrate_reserve
      { r with management := r.management ++ [.response ⟨dst, code, tag, st, k, rest.isEmpty, p⟩] } n

/-- Placing a response leaves the address, the link and the reservation. -/
theorem Rif.respond_keeps (r : Rif) (dst code tag : Byte) (st : Status) (k : Nat) (parts : List (List Byte)) :
    (r.respond dst code tag st k parts).own = r.own ∧ (r.respond dst code tag st k parts).linkUp = r.linkUp ∧
      (r.respond dst code tag st k parts).linkDownFlag = r.linkDownFlag ∧
      (r.respond dst code tag st k parts).partialBytes = r.partialBytes ∧
      (r.respond dst code tag st k parts).reserved = r.reserved := by
  induction parts generalizing r k with
  | nil => simp [Rif.respond]
  | cons p rest ih => simpa [Rif.respond] using ih (r.pushManagement (.response ⟨dst, code, tag, st, k, rest.isEmpty, p⟩)) (k + 1)

/-- A response takes at most as many places as it has parts. -/
theorem Rif.respond_length (r : Rif) (dst code tag : Byte) (st : Status) (k : Nat) (parts : List (List Byte)) :
    (r.respond dst code tag st k parts).management.length ≤ r.management.length + parts.length ∧
      (r.respond dst code tag st k parts).outbound.length ≤ r.outbound.length := by
  induction parts generalizing r k with
  | nil => simp [Rif.respond]
  | cons p rest ih =>
    have h := ih (r.pushManagement (.response ⟨dst, code, tag, st, k, rest.isEmpty, p⟩)) (k + 1)
    have g := Rif.pushManagement_length r (.response ⟨dst, code, tag, st, k, rest.isEmpty, p⟩)
    simp only [Rif.respond, List.length_cons]
    omega

/-- An answer leaves the address and the link. -/
@[simp] theorem State.answered_rif_own (s : State) (src code tag : Byte) (r : Reply) :
    (s.answered src code tag r).rif.own = s.rif.own := (Rif.respond_keeps _ src code tag _ _ _).1

/-- An answer leaves the address and the link. -/
@[simp] theorem State.answered_rif_linkUp (s : State) (src code tag : Byte) (r : Reply) :
    (s.answered src code tag r).rif.linkUp = s.rif.linkUp := (Rif.respond_keeps _ src code tag _ _ _).2.1

/-! ### A request taken off the ring -/

/-- The state in which the owner of a request acts: the whole frame heard and the response's room reserved. -/
def State.serving (s : State) (parts : Nat) : State :=
  { s with rif := { s.rif with partialBytes := 0, reserved := s.rif.reserved + parts } }

/-- A request that is taken: its owner acts, the response is placed, the reservation ends. -/
theorem takeRequest_taken (src code tag : Byte) (parts : Nat) (owner : State → State × Reply) (s : State)
    (h : s.Takes src parts) :
    takeRequest src code tag parts owner s =
      let out := owner (s.serving parts)
      { out.1 with rif :=
        { out.1.rif.respond src code tag out.2.status 1 out.2.parts with reserved := s.rif.reserved } } := by
  obtain ⟨hl, hs, hp⟩ := h
  have hp' : ¬s.heard.rif.freePlaces < parts := Nat.not_lt.mpr hp
  unfold takeRequest
  rw [if_pos hl]
  dsimp only
  rw [if_neg hs]
  exact if_neg hp'

/-- A request whose owner leaves the wire alone is answered after its effect. -/
theorem takeRequest_answered (src code tag : Byte) (parts : Nat) (owner : State → State × Reply) (s t : State) (r : Reply)
    (h : s.Takes src parts) (ho : owner (s.serving parts) = ({ t with rif := (s.serving parts).rif }, r))
    (ht : t.rif = s.rif) : takeRequest src code tag parts owner s = t.answered src code tag r := by
  rw [takeRequest_taken _ _ _ _ _ _ h, ho]
  have hr : ∀ n, ({ s.rif with partialBytes := 0, reserved := n } : Rif) =
    { ({ s.rif with partialBytes := 0 } : Rif) with reserved := n } := fun _ => rfl
  simp only [State.serving, State.answered, Rif.answer, ht]
  rw [hr, Rif.respond_reserve]
  simp only [State.mk.injEq, true_and, and_true]
  have hk := (Rif.respond_keeps ({ s.rif with partialBytes := 0 } : Rif) src code tag r.status 1 r.parts).2.2.2.2
  generalize ({ s.rif with partialBytes := 0 } : Rif).respond src code tag r.status 1 r.parts = q at hk ⊢
  cases q
  simpa using hk.symm

/-- A request without room for its response is counted and not executed (R176 step 2). -/
theorem takeRequest_dropped (src code tag : Byte) (parts : Nat) (owner : State → State × Reply) (s : State)
    (hl : s.rif.linkUp = true) (hs : src ≠ s.rif.own) (hp : s.rif.freePlaces < parts) :
    takeRequest src code tag parts owner s = s.heard.bump ctrMgmtDropped := by
  have hp' : s.heard.rif.freePlaces < parts := hp
  unfold takeRequest
  rw [if_pos hl]
  dsimp only
  rw [if_neg hs]
  exact if_pos hp'

/-- The part's own request is removed (R171 row 1). -/
theorem takeRequest_own (src code tag : Byte) (parts : Nat) (owner : State → State × Reply) (s : State)
    (hl : s.rif.linkUp = true) (hs : src = s.rif.own) : takeRequest src code tag parts owner s = s.heard := by
  simp [takeRequest, hl, hs, State.heard]

/-- Nothing arrives while the link is DOWN (R169). -/
theorem takeRequest_down (src code tag : Byte) (parts : Nat) (owner : State → State × Reply) (s : State)
    (hl : s.rif.linkUp = false) : takeRequest src code tag parts owner s = s := by
  simp [takeRequest, hl]

/-- What can become of a request, for a property that holds of the state it finds and after its owner and its response. -/
theorem takeRequest_keeps (P : State → Prop) (src code tag : Byte) (parts : Nat) (owner : State → State × Reply) (s : State)
    (h0 : P s) (h1 : P s.heard) (h2 : P (s.heard.bump ctrMgmtDropped))
    (h3 : s.Takes src parts → P { (owner (s.serving parts)).1 with rif :=
      { (owner (s.serving parts)).1.rif.respond src code tag (owner (s.serving parts)).2.status 1
          (owner (s.serving parts)).2.parts with reserved := s.rif.reserved } }) :
    P (takeRequest src code tag parts owner s) := by
  cases hl : s.rif.linkUp
  · rwa [takeRequest_down _ _ _ _ _ _ hl]
  · by_cases hs : src = s.rif.own
    · rwa [takeRequest_own _ _ _ _ _ _ hl hs]
    · by_cases hp : s.rif.freePlaces < parts
      · rwa [takeRequest_dropped _ _ _ _ _ _ hl hs hp]
      · rw [takeRequest_taken _ _ _ _ _ _ ⟨hl, hs, Nat.not_lt.mp hp⟩]
        exact h3 ⟨hl, hs, Nat.not_lt.mp hp⟩

/-! ### Effects taken -/

/-- With no stop or halt waiting, settling changes nothing. -/
theorem State.settle_idle (s : State) (h : s.Settled) : s.settle = s := by
  obtain ⟨pos, store, reg, trq, cam, chk, lot, sup, rif, free, pending⟩ := s
  obtain ⟨line, reason, last, log, mark, ctr, deferred⟩ := sup
  have h' : deferred = [] := h
  subst h'
  rfl

/-- A halt in SAFE is absorbed (R151). -/
theorem State.halt_safe (r : StopReason) (s : State) (h : s.sup.line = .safe) : s.halt r = s := if_pos h

/-- A stop outside RUN is absorbed (R148). -/
theorem State.stop_absorbed (r : StopReason) (s : State) (h : s.sup.line ≠ .run) : s.stop r = s := if_neg h

end Sys2Proof.Machine
end

