-- ==== Sys2Proof/Laws/Frames.lean ====
section
/-! SUPPORT. Received frames: two-byte fields read back, the fields of a whole frame, and what the check and an
opening decide. -/

namespace Sys2Proof.Machine

/-- The two bytes of a field give the field back. -/
theorem half_bytes (h : Half) : half (h.extractLsb' 8 8) (h.extractLsb' 0 8) = h := by
  show (h.extractLsb' 8 8 ++ h.extractLsb' 0 8 : BitVec (8 + 8)) = h
  refine BitVec.eq_of_getLsbD_eq fun i hi => ?_
  rw [BitVec.getLsbD_append]
  by_cases h8 : i < 8
  · simp [h8]
  · have h1 : i - 8 < 8 := by omega
    simp [h8, h1, Nat.add_sub_cancel' (Nat.le_of_not_lt h8)]

/-- A field at the front of a payload is read as it was written. -/
theorem payloadHalf_first (h : Half) (rest : List Byte) : payloadHalf (halfBytes h ++ rest) 0 = h.toNat := by
  show (half _ _).toNat = _
  exact congrArg BitVec.toNat (half_bytes h)

/-- A field behind two other bytes is read as it was written. -/
theorem payloadHalf_second (a b : Byte) (h : Half) (rest : List Byte) :
    payloadHalf (a :: b :: (halfBytes h ++ rest)) 2 = h.toNat := by
  show (half _ _).toNat = _
  exact congrArg BitVec.toNat (half_bytes h)

/-- The bytes of a body and a check split into the fields they were made from. -/
theorem splitFrame_body (dst src kind : Byte) (payload : List Byte) (check : Half) (h : payload.length ≤ 240) :
    splitFrame (frameBody dst src kind payload ++ halfBytes check) = some (dst, src, kind, payload, check) := by
  have hl : (BitVec.ofNat 8 payload.length).toNat = payload.length := by
    rw [BitVec.toNat_ofNat]; exact Nat.mod_eq_of_lt (by omega)
  simp only [splitFrame, frameBody, List.cons_append, hl, List.drop_left, List.take_left, halfBytes, half_bytes]

/-- A frame that passes its check is handled after the receive port has been freed. -/
theorem State.receive_passes (dst src kind : Byte) (payload : List Byte) (s : State) (hup : s.rif.linkUp = true)
    (h : payload.length ≤ 240) :
    s.receive dst src kind payload (frameCheck (frameBody dst src kind payload)) =
      s.heard.handleFrame dst src kind payload
        (frameBody dst src kind payload ++ halfBytes (frameCheck (frameBody dst src kind payload))) := by
  unfold State.receive
  rw [if_pos hup]
  exact if_pos ⟨h, rfl⟩

/-- A frame that fails its check is counted and dropped. -/
theorem State.receive_fails (dst src kind : Byte) (payload : List Byte) (check : Half) (s : State)
    (hup : s.rif.linkUp = true) (h : check ≠ frameCheck (frameBody dst src kind payload)) :
    s.receive dst src kind payload check = s.heard.bump ctrBadCheck := by
  unfold State.receive
  rw [if_pos hup]
  exact if_neg fun hc => h hc.2.symm

/-- Nothing is received while the link is DOWN. -/
theorem State.receive_down (dst src kind : Byte) (payload : List Byte) (check : Half) (s : State)
    (hup : s.rif.linkUp = false) : s.receive dst src kind payload check = s := by
  unfold State.receive
  exact if_neg (by simp [hup])

/-- Bytes too few for an opening carry none. -/
theorem carriesOpening_short : ∀ bytes : List Byte, bytes.length < 10 → carriesOpening bytes = false
  | [], _ => rfl
  | b :: rest, h => by
    have hp : opening.isPrefixOf (b :: rest) = false := by
      rw [Bool.eq_false_iff]
      intro hp
      have hl : opening.length ≤ (b :: rest).length := (List.isPrefixOf_iff_prefix.mp hp).length_le
      exact absurd h (Nat.not_lt.mpr hl)
    rw [carriesOpening, hp, carriesOpening_short rest (Nat.lt_of_succ_lt h)]
    rfl

/-- An opening before the last byte is an opening. -/
theorem carriesOpening_of_dropLast : ∀ bytes : List Byte, carriesOpening bytes.dropLast = true → carriesOpening bytes = true
  | [], h => h
  | [_], h => by cases h
  | b :: c :: rest, h => by
    have h : (opening.isPrefixOf (b :: (c :: rest).dropLast) || carriesOpening (c :: rest).dropLast) = true := h
    rw [carriesOpening, Bool.or_eq_true]
    rcases Bool.or_eq_true _ _ |>.mp h with hp | hr
    · exact .inl (List.isPrefixOf_iff_prefix.mpr ((List.isPrefixOf_iff_prefix.mp hp).trans
        (List.dropLast_prefix (b :: c :: rest))))
    · exact .inr (carriesOpening_of_dropLast (c :: rest) hr)

/-- Bytes without an opening are taken as a frame. -/
theorem execFrameReceived_whole (bytes : List Byte) (s : State) (h : carriesOpening bytes = false) :
    execFrameReceived bytes s = .next (s.takeFrame bytes) := by
  have hd : carriesOpening bytes.dropLast = false :=
    Bool.eq_false_iff.mpr fun hd => absurd (carriesOpening_of_dropLast bytes hd) (by rw [h]; decide)
  rw [execFrameReceived, cutByOpening, hd, h]
  rfl

/-- What received bytes can do: their frame is taken, or an opening among them cut it short; the second always where the
opening ends before the last byte (R178; log 34). -/
theorem execFrameReceived_cases (bytes : List Byte) (s : State) :
    (execFrameReceived bytes s = .next (s.takeFrame bytes) ∧ carriesOpening bytes.dropLast = false) ∨
      (execFrameReceived bytes s = .next (s.cutShort .newOpening) ∧ carriesOpening bytes = true) := by
  unfold execFrameReceived
  split
  · next h =>
    refine .inr ⟨rfl, ?_⟩
    rcases Bool.or_eq_true _ _ |>.mp h with hd | hc
    · exact carriesOpening_of_dropLast bytes hd
    · exact (Bool.and_eq_true _ _ |>.mp hc).1
  · next h => exact .inl ⟨rfl, (Bool.or_eq_false_iff.mp (Bool.eq_false_iff.mpr h)).1⟩

end Sys2Proof.Machine
end

