-- ==== Sys2Proof/Laws/Layouts.lean ====
section
/-! SUPPORT. Fields of a byte string: where a field of a concatenation lies, and what a big-endian field reads as. -/

namespace Sys2Proof.Machine

theorem bigEndian_length (n x : Nat) : (bigEndian n x).length = n := by
  induction n with
  | zero => rfl
  | succ n ih => simp [bigEndian, ih]

/-- A field that starts behind a prefix lies in the rest. -/
theorem fieldAt_append_right {a b : List Byte} {start : Nat} (n : Nat) (h : a.length ≤ start) :
    fieldAt (a ++ b) start n = fieldAt b (start - a.length) n := by
  simp [fieldAt, List.drop_append, List.drop_of_length_le h]

/-- A field that ends within a prefix lies in it. -/
theorem fieldAt_append_left {a b : List Byte} {start n : Nat} (h : start + n ≤ a.length) :
    fieldAt (a ++ b) start n = fieldAt a start n := by
  simp only [fieldAt]
  rw [List.drop_append_of_le_length (by omega), List.take_append_of_le_length (by simp; omega)]

/-- What a number's low bytes spell. -/
theorem bigEndian_spells (n x acc : Nat) :
    (bigEndian n x).foldl (fun v b => v * 256 + b.toNat) acc = acc * 256 ^ n + x % 256 ^ n := by
  induction n generalizing acc with
  | zero => simp [bigEndian, Nat.mod_one]
  | succ n ih =>
    simp only [bigEndian, List.foldl_cons, ih, BitVec.toNat_ofNat]
    have h : x % 256 ^ (n + 1) = x % 256 ^ n + 256 ^ n * (x / 256 ^ n % 256) := by rw [Nat.pow_succ, Nat.mod_mul]
    rw [h]; ring

/-- A big-endian field reads as the number's value in its width. -/
theorem fieldAt_bigEndian (n x : Nat) (rest : List Byte) : fieldAt (bigEndian n x ++ rest) 0 n = x % 256 ^ n := by
  rw [fieldAt_append_left (by simp [bigEndian_length])]
  simp [fieldAt, List.take_of_length_le (bigEndian_length n x).le, bigEndian_spells]

end Sys2Proof.Machine
end

