-- ==== Sys2Proof/Laws/Tables.lean ====
section
/-! SUPPORT. The lookups and writes of the tracking queue and the lot table: a record or lot that stands once in its
list is found there and changed there alone, and what a write keeps. -/

namespace Sys2Proof.Machine

/-- A change of the entries a condition picks is none where it picks none. -/
theorem map_of_none {α : Type} (p : α → Prop) [DecidablePred p] (f : α → α) (l : List α) (h : ∀ x ∈ l, ¬p x) :
    (l.map fun x => if p x then f x else x) = l :=
  (List.map_congr_left fun x hx => by simp [h x hx]).trans (List.map_id l)

/-! ### The tracking queue -/

theorem State.findRecord_middle {before after : List Record} {r : Record} {s : State}
    (hq : s.trq.queue = before ++ r :: after) (hu : ∀ x ∈ before ++ after, x.serial ≠ r.serial) :
    s.findRecord r.serial = some r := by
  have hb : before.find? (fun x => x.serial == r.serial) = none := by
    simp only [List.find?_eq_none]; intro x hx; simp [hu x (by simp [hx])]
  simp [State.findRecord, hq, List.find?_append, hb]

theorem State.writeRecord_middle {before after : List Record} {r : Record} {s : State} (f : Record → Record)
    (hq : s.trq.queue = before ++ r :: after) (hu : ∀ x ∈ before ++ after, x.serial ≠ r.serial) :
    s.writeRecord r.serial f = { s with trq := { s.trq with queue := before ++ f r :: after } } := by
  simp only [State.writeRecord, hq, List.map_append, List.map_cons, if_true]
  rw [map_of_none _ f before fun x hx => hu x (by simp [hx]), map_of_none _ f after fun x hx => hu x (by simp [hx])]

theorem State.writeRecord_serials (serial : Nat) (f : Record → Record) (s : State) (h : ∀ r, (f r).serial = r.serial) :
    (s.writeRecord serial f).trq.queue.map Record.serial = s.trq.queue.map Record.serial := by
  simp only [State.writeRecord, List.map_map]
  refine List.map_congr_left fun x _ => ?_
  simp only [Function.comp_apply]; split <;> simp [h]

/-! ### The lot table -/

theorem State.findLot_middle {front back : List Lot} {l : Lot} {s : State}
    (hq : s.lot.table = front ++ l :: back) (hu : ∀ x ∈ front ++ back, x.key ≠ l.key) :
    s.findLot l.key = some l := by
  have hb : front.find? (fun x => x.key == l.key) = none := by
    simp only [List.find?_eq_none]; intro x hx; simp [hu x (by simp [hx])]
  simp [State.findLot, hq, List.find?_append, hb]

theorem State.writeLot_middle {front back : List Lot} {l : Lot} {s : State} (f : Lot → Lot)
    (hq : s.lot.table = front ++ l :: back) (hu : ∀ x ∈ front ++ back, x.key ≠ l.key) :
    s.writeLot l.key f = { s with lot := { s.lot with table := front ++ f l :: back } } := by
  simp only [State.writeLot, hq, List.map_append, List.map_cons, if_true]
  rw [map_of_none _ f front fun x hx => hu x (by simp [hx]), map_of_none _ f back fun x hx => hu x (by simp [hx])]

theorem State.writeLot_keys (k : LotKey) (f : Lot → Lot) (s : State) (h : ∀ l, (f l).key = l.key) :
    (s.writeLot k f).lot.table.map Lot.key = s.lot.table.map Lot.key := by
  simp only [State.writeLot, List.map_map]
  refine List.map_congr_left fun x _ => ?_
  simp only [Function.comp_apply]; split <;> simp [h]

theorem State.endLot_middle_removes {front back : List Lot} {l : Lot} (hu : ∀ x ∈ front ++ back, x.key ≠ l.key) :
    ((front ++ l :: back).filter fun x => x.key != l.key) = front ++ back := by
  have e : ∀ m : List Lot, (∀ x ∈ m, x.key ≠ l.key) → m.filter (fun x => x.key != l.key) = m := fun m hm =>
    List.filter_eq_self.mpr fun x hx => by simp [hm x hx]
  simp [List.filter_append, e front fun x hx => hu x (by simp [hx]), e back fun x hx => hu x (by simp [hx])]

end Sys2Proof.Machine
end

