-- ==== Sys2Proof/Tests/Slice0.lean ====
section
/-! SUPPORT. Small tests. Expected values come from the worked examples and layouts of spec/, named at each test. The
`witness_` theorems show states and operands that meet the hypotheses of the statement of that name in
Certificates/Slice0/Obligations.lean, clause by clause, at boundary values. -/

namespace Sys2Proof.Tests

open Sys2Proof Sys2Proof.Machine

/-! ### Small states -/

/-- After reset, with the link UP; the own address is 32. -/
def up : State := { State.reset with rif := { State.reset.rif with linkUp := true } }

/-- The transmitter busy with a frame. -/
def busy (s : State) : State := { s with rif := { s.rif with tx := .sending .forward [0xA5] } }

/-- The position KNOWN, raw and held at p, with that node count. -/
def at' (p : Nat) (s : State) : State :=
  { s with pos := { s.pos with state := .known, raw := p, held := p, lastCount := p % 65536, timer := some 20 } }

/-- The line in a state. -/
def inLine (l : LineState) (s : State) : State := { s with sup := { s.sup with line := l } }

/-- A lot of id 7, format 1, target 6 and batch size 4, in a state. -/
def lot7 (st : LotState) : Lot :=
  ⟨⟨7, 0⟩, 0, 6, 4, true, st, 0, 0, 0, 0, 0, 0, 0, none, 1, 0, 0, false⟩

/-- A lot table. -/
def withLots (l : List Lot) (s : State) : State := { s with lot := { s.lot with table := l } }

/-- An open record of lot 7 with a serial. -/
def blank (serial : Nat) : Record := Record.born serial (100 + serial) ⟨7, 0⟩ 0

/-- A tracking queue. -/
def withRecords (l : List Record) (s : State) : State := { s with trq := { s.trq with queue := l, serial := l.length } }

/-- A full management queue. -/
def crowded (s : State) : State :=
  { s with rif := { s.rif with management := List.replicate 16 (.response ⟨62, 19, 0, .accepted, 1, true, []⟩) } }

/-- A full outbound queue. -/
def outFull (s : State) : State := { s with rif := { s.rif with outbound := List.replicate 64 (.drive 1 .run) } }

/-- What a command answers, as a state; the state itself where it does not go on. -/
def after (c : Instr) (s : State) : State :=
  match exec c s with
  | .next t => t
  | .fault _ => s
  | .refused _ => s

/-- The line of 13.2: channels, inputs and settings. -/
def store13 : Store :=
  let ch : Channel := { Channel.reset with node := 10, source := .cam }
  { Store.reset with
    channels := (((Store.reset.channels.set 0 { ch with function := .knife }).set 2
      { ch with function := .patch, offset := 2, policy := .skipReject }).set 5
      { ch with function := .gate, offset := 3, delay := 4000, mergeGap := 200, holdMax := 2 }).set 6
      { ch with function := .finger, offset := 4 }
    inputs := (((Store.reset.inputs.set 0 { Input.reset with function := .mark }).set 1
      { Input.reset with function := .splice }).set 2 { Input.reset with function := .boxTaken }).set 4
      { Input.reset with function := .check, offset := 2, limit := 3 }
    settings := { Settings.reset with noticeAddress := 62, deliveryOffset := 5, boxDeadline := 20 } }

/-- Format 1 of 13.2 as it stands before its commit. -/
def format13 : Format :=
  { Format.blank .open with
    sizeClass := 1, required := 101, nominal := 600, half := 200, lockWindow := 24, warn := 48, reject := 96, gain := 8
    stepMax := 16, trimMax := 256, lossLimit := 3, holdoff := 0, span := 2, acceptUnlocked := true
    classes := (Vector.replicate 4 none |>.set 0 (some ⟨40, 80⟩)).set 1 (some ⟨100, 140⟩)
    programs := (Vector.replicate 4 Program.empty
      |>.set 0 ⟨[⟨0, 100, 400⟩, ⟨5, 2000, 1900⟩, ⟨6, 1000, 2500⟩], []⟩).set 1
        ⟨[⟨0, 100, 400⟩, ⟨2, 1000, 1800⟩, ⟨5, 2000, 1900⟩, ⟨6, 1000, 2500⟩], [⟨4, 1500, 2500, .present, some 2⟩]⟩ }

/-- The line of 13.2 with format 1 in a state. -/
def line13 (st : FormatState) : State :=
  let f : Format := { format13 with state := st, storedSum := if st = .valid then 24361 else 0 }
  { up with store := { store13 with formats := updateAt store13.formats 0 fun _ => f } }

/-! ### WellFormed refuses what no ring can carry (R168, R170, R178) -/

theorem test_wellFormed_refuses_source_64 : WellFormed (.lineStart 64 0) = false ∧ WellFormed (.lineStart 63 0) = true := by
  decide
theorem test_wellFormed_refuses_short_frame :
    WellFormed (.frameReceived [63, 20, 2, 4, 0, 0]) = false ∧ WellFormed (.frameReceived [63, 20]) = false ∧
      WellFormed (.frameReceived [63, 20, 9, 0, 1, 2]) = true := by decide
theorem test_wellFormed_refuses_long_payload : WellFormed (.frameReceived ([63, 20, 9, 241] ++ List.replicate 243 0)) = false := by
  decide
theorem test_wellFormed_refuses_angle_source : WellFormed (.angle 64 0 0 0) = false := by decide
theorem test_wellFormed_refuses_point_16 : WellFormed (.edge 20 16 1 0 0) = false ∧ WellFormed (.edge 20 15 1 0 0) = true := by
  decide
theorem test_wellFormed_refuses_level_2 : WellFormed (.edge 20 0 2 0 0) = false := by decide
theorem test_wellFormed_refuses_full_buffer : WellFormed (.transmitDone 1025) = false := by decide
theorem test_wellFormed_refuses_decoded : WellFormed (.requestUndecoded 62 [13, 9]) = false ∧
    WellFormed (.requestUndecoded 62 [13, 9, 0]) = true := by decide
/-- A frame of another kind to all, with these payload bytes and the check of them. -/
def carrying (payload : List Byte) : List Byte :=
  frameBody 63 20 9 payload ++ halfBytes (frameCheck (frameBody 63 20 9 payload))
/-- R178: no frame carries an opening before its last byte, nor a request one in its payload. -/
theorem test_wellFormed_refuses_an_opening :
    WellFormed (.frameReceived (carrying opening)) = false ∧ WellFormed (.frameReceived (carrying opening.tail)) = true ∧
      WellFormed (.requestUndecoded 62 ([13, 9] ++ opening)) = false ∧
      WellFormed (.requestUndecoded 62 (opening.tail ++ List.replicate 156 0)) = false ∧
      WellFormed (.requestUndecoded 62 (opening.tail ++ List.replicate 155 0)) = true ∧
      WellFormed (.formatLoad 62 0 1 [⟨0xA5, 0xA5, 0xA5, 0xA5, 0xA5, 0xA5, 0xA5, 0xA5, 0xA5, 0x3C⟩]) = false := by
  decide +kernel
theorem test_wellFormed_refuses_24_items :
    WellFormed (.formatLoad 62 0 1 (List.replicate 24 ⟨1, 1, 0, 0, 0, 1, 0, 0, 0, 0⟩)) = false := by decide

/-! ### Request payloads, written out from the request table of R178 -/

theorem test_decode_tables :
    decodeRequest 62 [1, 7, 5, 14, 0, 4, 3, 0x0F, 0xA0, 0, 0, 0, 200, 2, 0, 0, 1] =
      some (.channelSet 62 7 ⟨5, 14, 0, 4, 3, 4000, 0, 200, 2, 0, 0, 1⟩) ∧
    decodeRequest 62 [2, 8, 4, 2, 2, 1, 0, 3] = some (.inputSet 62 8 ⟨4, 2, 2, 1, 0, 3⟩) ∧
    decodeRequest 62 [3, 9, 1, 1, 1, 0x60, 3, 0xF0, 12] = some (.mapSet 62 9 ⟨1, 1, 352, 1008, 12⟩) ∧
    decodeRequest 62 [4, 1, 1, 2, 62, 20, 0, 60, 7, 8, 4, 5, 20] =
      some (.settingsSet 62 1 ⟨1, 2, 62, 20, 60, 1800, 4, 5, 20⟩) := by decide
theorem test_decode_formats :
    decodeRequest 62 [5, 2, 1] = some (.formatOpen 62 2 1) ∧
    decodeRequest 62 [6, 3, 1, 1, 3, 0, 5, 7, 0xD0, 7, 0x6C, 0, 0, 0] =
      some (.formatLoad 62 3 1 [⟨3, 0, 5, 7, 0xD0, 7, 0x6C, 0, 0, 0⟩]) ∧
    decodeRequest 62 [6, 3, 1, 2, 3, 0, 5, 7, 0xD0, 7, 0x6C, 0, 0, 0] = none ∧
    decodeRequest 62 [7, 4, 1, 0x5F, 0x29] = some (.formatCommit 62 4 1 24361) ∧
    decodeRequest 62 [8, 5, 16] = some (.formatErase 62 5 16) ∧
    decodeRequest 62 [9, 6, 1, 2] = some (.formatRead 62 6 1 2) := by decide
theorem test_decode_lots :
    decodeRequest 62 [10, 6, 0, 7, 1, 0, 0, 0, 6, 0, 4, 1] = some (.lotAdd 62 6 ⟨7, 1, 6, 4, 1⟩) ∧
    decodeRequest 62 [11, 6, 1, 2, 3] = some (.lotCancel 62 6 258 3) ∧
    decodeRequest 62 [12, 6, 1, 0, 0, 2] = some (.lotRead 62 6 1 0 2) := by decide
theorem test_decode_line :
    decodeRequest 62 [13, 1] = some (.lineStart 62 1) ∧ decodeRequest 62 [14, 1] = some (.lineStop 62 1) ∧
    decodeRequest 62 [15, 1] = some (.lineHalt 62 1) ∧ decodeRequest 62 [16, 1] = some (.lineClear 62 1) ∧
    decodeRequest 62 [17, 1] = some (.lineReset 62 1) ∧ decodeRequest 62 [18, 1, 23, 1] = some (.manualSet 62 1 23 1) ∧
    decodeRequest 62 [17, 1, 0] = none ∧ decodeRequest 62 [0, 1] = none ∧ decodeRequest 62 [24, 1] = none := by decide
theorem test_decode_reads :
    decodeRequest 62 [19, 1] = some (.statusRead 62 1) ∧ decodeRequest 62 [20, 1] = some (.trackRead 62 1) ∧
    decodeRequest 62 [21, 1, 63, 1] = some (.countersRead 62 1 63 1) ∧
    decodeRequest 62 [22, 1, 0, 0, 1, 0] = some (.logRead 62 1 256) ∧
    decodeRequest 62 [23, 1, 0, 0, 0, 42] = some (.logClear 62 1 42) := by decide

/-! ### Worked examples -/

/-- 1.9: the steps of the five samples, across the wrap of the node count and back (R4). -/
theorem test_count_steps : [countStep 65414 65470, countStep 65470 16, countStep 16 2, countStep 2 90, countStep 90 1300] =
    [56, 82, -14, 88, 1210] := by decide
/-- 1.9: jitter is held back, a jump is not (R6). -/
theorem test_held_position : nextHeld true 131088 131074 (motionFault true 131088 131074 (-14)) = 131088 ∧
    motionFault true 131162 132372 1210 = some .jump ∧ motionFault true 131088 131024 (-64) = none ∧
    motionFault true 131088 131023 (-65) = some .reverse ∧ motionFault true 0 1024 1024 = none := by decide
/-- 1.10: 410 counts in 4,000 µs, then 411; and the saturated speed (R11). -/
theorem test_speed :
    speedOf ([51, 52, 51, 51, 52, 51, 51, 51].map fun n => ⟨n, 500⟩) = 102500 ∧ cpmOf 102500 = 1501 ∧
      speedOf (addInterval ([51, 52, 51, 51, 52, 51, 51, 51].map fun n => ⟨n, 500⟩) 52 500) = 102750 ∧ cpmOf 102750 = 1505 ∧
      speedOf [⟨600, 4000⟩] = 131071 ∧ cpmOf 131071 = 1919 := by decide
/-- 3.5: the three corrections and the two after them (R46). -/
theorem test_corrections :
    let f : RegSettings := ⟨24, 8, 16, 256, 3, 0, 2⟩
    let g : RegSettings := ⟨24, 16, 16, 256, 3, 0, 2⟩
    correctedTrim f 0 13 = -7 ∧ correctedTrim f (-7) (-3) = -5 ∧ correctedTrim g (-250) 40 = -256 ∧
      correctedTrim g (-256) 5 = -256 ∧ correctedTrim g (-256) (-8) = -248 := by decide
/-- 5.3, One GUM Window: lead, firing position and minimum off (R75, R76, R77). -/
theorem test_gum_window : lead 102500 6000 = 615 ∧ firing 1005 3900 615 = 4119765 ∧ offPitch 1005 3900 300 = 1006 ∧
    minimumOff 4119765 9000 102500 = 4120688 ∧ lead 102500 4000 = 410 := by decide
/-- 6.2, Mapping and Placing: keys 322, 325, 355 and 356, and the captured counts (R19, R94, R95). -/
theorem test_mapping :
    let s := { up with store := { up.store with
      inputs := Vector.replicate 16 { Input.reset with function := .check }
      map := (up.store.map.set 0 ⟨true, 320, 1020, 4⟩).set 1 ⟨true, 352, 1008, 12⟩ } }
    s.mapEdge (edgeKey 20 2) = some 6 ∧ s.mapEdge (edgeKey 20 5) = none ∧ s.mapEdge (edgeKey 22 3) = some 15 ∧
      s.mapEdge (edgeKey 22 4) = none ∧ [33400, 33800, 30000, 29000].map (countStep 33168) = [232, 632, -3168, -4168] := by
  decide
/-- 13.2 steps 5 and 6: the content sum, and a commit that passes every check (R32, R33, R34). -/
theorem test_content_sum : format13.contentSum 1 = 24361 := by decide
theorem test_commit : ((after (.formatCommit 62 5 1 24361) (line13 .open)).format 0).state = .valid ∧
    ((after (.formatCommit 62 5 1 24360) (line13 .open)).format 0).state = .invalid := by decide +kernel

/-- 10.7: a fault against a full log is counted as overflow and keeps the sixteen records; the stale clear (R157, R162). -/
def fullLog : State :=
  inLine .run { up with sup := { up.sup with
    lastSequence := 40, log := (List.range 16).map fun n => ⟨25 + n, .trimLimit, .none, .run, 100, .number 256⟩ } }
theorem test_full_log :
    let s := (fullLog.raise .trimLimit .none (.number 256)).raise .consecutiveDefect .stop (.number 4)
    s.sup.lastSequence = 42 ∧ s.sup.overflow = 2 ∧ s.sup.log = fullLog.sup.log ∧
      (after (.logClear 62 31 40) s).sup.log.length = 16 ∧ (after (.logClear 62 33 42) s).sup.log = [] ∧
      (after (.logClear 62 33 42) s).sup.overflow = 0 := by decide +kernel

/-! ### Witnesses: the queue of commands and the wire -/

theorem witness_StepTakesTheFrontCommand : State.reset.pending = [] := by decide
theorem witness_RequestPayloadReadsBack :
    WellFormed (.lotCancel 63 255 65535 15) = true ∧
      encodeRequest (.lotCancel 63 255 65535 15) = some [11, 255, 255, 255, 15] ∧
      decodeRequest 63 [11, 255, 255, 255, 15] = some (.lotCancel 63 255 65535 15) := by decide
theorem witness_ReceivedFrameDoesWhatItSpells :
    up.Settled ∧ ([13, 9] : List Byte).length ≤ 240 ∧ decodeRequest 62 [13, 9] = some (.lineStart 62 9) ∧
      carriesOpening (frameBody 32 62 6 [13, 9] ++ halfBytes (frameCheck (frameBody 32 62 6 [13, 9]))) = false :=
  ⟨rfl, by decide, by decide, by decide +kernel⟩
theorem witness_SentFrameReadsBackWithItsCheck : (List.replicate 240 (0 : Byte)).length ≤ 240 :=
  Nat.le_of_eq List.length_replicate

/-! ### Witnesses: reset, the link and the transmitter -/

theorem witness_PowerOnGivesEveryBlockItsValues :
    (∀ strap, Instr.signalDetected ≠ .powerOnReset strap) ∧ exec .signalDetected State.reset = .next up :=
  ⟨nofun, rfl⟩
theorem witness_LinkFollowsTheSignal :
    State.reset.rif.linkUp = false ∧ up.rif.linkUp = true ∧ up.sup.lastSequence < 4294967295 ∧ up.sup.log.length < 16 := by
  decide
theorem witness_NothingArrivesWhileTheLinkIsDown :
    State.reset.rif.linkUp = false ∧ State.reset.Settled ∧ (∀ strap, Instr.lineHalt 62 0 ≠ .powerOnReset strap) ∧
      Instr.lineHalt 62 0 ≠ .signalDetected ∧ Instr.lineHalt 62 0 ≠ .motionTimerExpiry ∧
      ∀ n, Instr.lineHalt 62 0 ≠ .transmitDone n := ⟨rfl, rfl, nofun, nofun, nofun, nofun⟩
theorem witness_ReceivedFrameIsRemovedDroppedOrForwarded :
    let whole := fun dst src kind : Byte =>
      carriesOpening (frameBody dst src kind [1] ++ halfBytes (frameCheck (frameBody dst src kind [1]))) = false
    up.rif.linkUp = true ∧ ([1] : List Byte).length ≤ 240 ∧ ((32 : Byte) = up.rif.own ∧ whole 63 32 3) ∧
      ((62 : Byte) ≠ up.rif.own ∧ (32 : Byte) = up.rif.own ∧ (7 : Byte) ≠ 6 ∧ whole 32 62 7) ∧
      ((63 : Byte) ≠ up.rif.own ∧ ¬((63 : Byte) = 63 ∧ ((3 : Byte) = 1 ∨ (3 : Byte) = 2)) ∧ whole 63 62 3) ∧
      (busy up).rif.tx = .sending .forward [0xA5] ∧ (up.rif.tx = .idle ∧ up.rif.forward = []) ∧
      { up.rif with forward := [[63, 20, 9, 0, 1, 2]] }.forward = [63, 20, 9, 0, 1, 2] :: [] := by
  decide +kernel
theorem witness_FailingFrameIsOnlyCounted :
    up.rif.linkUp = true ∧ (0 : Half) ≠ frameCheck (frameBody 32 62 6 [13, 9]) ∧
      carriesOpening (frameBody 32 62 6 [13, 9] ++ halfBytes 0) = false ∧ 240 < (241 : Byte).toNat ∧
      ([0, 0] : List Byte).length ≠ (1 : Byte).toNat + 2 ∧ carriesOpening [63, 62, 9, 241, 0, 0] = false ∧
      ([63, 62, 1] : List Byte).length < 4 ∧ (0 : Half) ≠ frameCheck (angleBody 1 100 500) ∧
      (0 : Half) ≠ frameCheck (edgeBody 20 0 1 100) ∧ carriesOpening (carrying opening).dropLast = true ∧
      (carriesOpening (frameBody 63 20 9 (List.replicate 8 0xA5) ++ [0xA5, 0x3C]) = true ∧
        carriesOpening (frameBody 63 20 9 (List.replicate 8 0xA5) ++ [0xA5, 0x3C]).dropLast = false) := by
  decide +kernel
/-- R178: a frame cut short by an opening is dropped and counted, and not forwarded. -/
theorem test_an_opening_cuts_a_frame :
    let t := after (.frameReceived (carrying opening)) (busy up)
    t.sup.counters.get ctrBadCheck = 1 ∧ t.rif.forward = [] ∧
      (after (.frameReceived (carrying opening.tail)) (busy up)).rif.forward = [carrying opening.tail] := by decide +kernel
theorem witness_TransmitDoneHandsOnInOrder :
    let s := busy up
    let out : OutFrame := .trim 2 (-7)
    let reply : MgmtFrame := .response ⟨62, 19, 0, .accepted, 1, true, []⟩
    up.rif.tx = .idle ∧ s.rif.tx = .sending .forward [0xA5] ∧
      { s.rif with forward := [[62, 20, 9, 0, 1, 2]] }.forward = [62, 20, 9, 0, 1, 2] :: [] ∧
      ({ s.rif with outbound := [out] }.forward = [] ∧ { s.rif with outbound := [out] }.outbound = out :: [] ∧
        16 + out.payload.length ≤ 1024 - 1006) ∧
      ({ s.rif with management := [reply] }.management = reply :: [] ∧ (∀ g ∈ s.rif.outbound.head?, False) ∧
        16 + reply.payload.length ≤ 1024 - 0) ∧
      (¬16 + out.payload.length ≤ 1024 - 1007) ∧ ∀ g ∈ s.rif.management.head?, False := by decide

/-! ### Witnesses: requests in general -/

theorem witness_RequestsAreDroppedOrAnsweredInParts :
    let s := crowded (busy up)
    (requestSource (.statusRead 62 1) = some 62 ∧ (encodeRequest (.statusRead 62 1)).isSome ∧
      requestSource (.requestUndecoded 62 [24, 1]) = some 62 ∧ decodeRequest 62 [24, 1] = none ∧ s.Settled ∧
      s.rif.linkUp = true ∧ (62 : Byte) ≠ s.rif.own ∧ s.rif.freePlaces < responseParts s (.statusRead 62 1) ∧
      s.rif.freePlaces < responseParts s (.requestUndecoded 62 [24, 1]) ∧ up.Takes 62 1 ∧ decodeRequest 62 [] = none) ∧
    (List.replicate 470 (0 : Byte)).length ≤ 235 * (1 + 1) ∧ s.rif.tx = .sending .forward [0xA5] := by
  refine ⟨?_, Nat.le_of_eq List.length_replicate, rfl⟩
  unfold State.Takes State.Settled; decide
theorem witness_OutboundFrameJoinsOrIsLost :
    (up.rif.outbound.length < 64 ∧ (busy up).rif.tx ≠ .idle) ∧
      (up.rif.tx = .idle ∧ up.rif.forward = [] ∧ up.rif.outbound = [] ∧
        16 + (OutFrame.drive 1 .run).payload.length + up.rif.partialBytes ≤ 1024) ∧
      (64 ≤ (outFull up).rif.outbound.length ∧ { (outFull up).rif with overrun := true }.overrun = true ∧
        (outFull up).rif.overrun = false) ∧
      (outFull (busy up)).rif.tx ≠ .idle ∧ up.sup.lastSequence < 4294967295 ∧ up.sup.log.length < 16 := by decide

/-! ### Witnesses: the position unit -/

theorem witness_FirstSampleEstablishesThePosition :
    up.rif.linkUp = true ∧ (1 : Byte) ≠ up.rif.own ∧ up.rif.own ≠ broadcast ∧
      (1 : Byte).toNat = up.settings.driveNode ∧ up.pos.state = .unknown := by decide

/-- The held and the raw position after a sample of the drive node. -/
def sampled (count time : Half) (s : State) : State := after (.angle 1 count time (frameCheck (angleBody 1 count time))) s

/-- In RUN with a record, at 1,538 cuts a minute against an overspeed of 1,530, with a run count. -/
def speeding (overRun : Nat) : State :=
  let s := withRecords [blank 1] (inLine .run (at' 100 up))
  { s with
    store := { s.store with settings := { s.store.settings with overspeed := 1530 } }
    pos := { s.pos with history := List.replicate 8 ⟨60, 500⟩, overRun := overRun } }

theorem witness_SampleMovesThePositionByTheRules :
    let idle := at' 100 up
    let run := inLine .run (at' 130950 up)
    (idle.rif.linkUp = true ∧ (1 : Byte) ≠ idle.rif.own ∧ idle.rif.own ≠ broadcast ∧
      (1 : Byte).toNat = idle.settings.driveNode ∧ idle.pos.state = .known) ∧
    (100 : Int) + countStep 100 65535 < 0 ∧ (0 ≤ (100 : Int) + countStep 100 0 ∧ (100 : Int) + countStep 100 0 < 2 ^ 44) ∧
    idle.running = false ∧ run.running = true ∧ 1024 < countStep 65414 903 ∧
    nextRaw 130950 (countStep 65414 65349) + 64 < run.pos.held ∧
    ¬(1024 < countStep 65414 65350 ∨ nextRaw 130950 (countStep 65414 65350) + 64 < run.pos.held) ∧
    idle.pos.lastTime = 0 ∧ (0 : Nat) < 50000 ∧ ¬idle.settings.overspeed < idle.pos.v ∧
    ((speeding 3).settings.overspeed < (sampled 100 500 (speeding 3)).pos.v ∧
      (speeding 3).pos.overRun ≠ (speeding 3).settings.debounce ∧
      (speeding 3).settings.debounce ≤ (speeding 3).pos.overRun + 1 ∧ (speeding 3).Settled ∧
      (speeding 3).sup.lastSequence < 4294967295 ∧ (speeding 3).sup.log.length < 16) := by
  unfold State.Settled; decide +kernel
/-- R12: OVERSPEED is raised when the run count reaches the debounce, and not again while it stays there; R11: V is 1,538. -/
theorem test_overspeed_at_the_debounce :
    let t := sampled 100 500 (speeding 3)
    t.sup.log = [⟨1, .overspeed, .stop, .run, 0, .number 1538⟩] ∧ t.sup.line = .runout ∧ t.sup.reason = .fault 1 ∧
      t.pos.overRun = 4 ∧ (sampled 100 500 (speeding 4)).sup.log = [] ∧ (sampled 100 500 (speeding 2)).pos.overRun = 3 ∧
      (sampled 100 500 (speeding 9)).pos.overRun = 4 := by decide +kernel
theorem test_sample_jump_takes_the_line_to_SAFE :
    let t := sampled 903 500 (inLine .run (at' 130950 up))
    t.sup.line = .safe ∧ t.sup.reason = .fault 1 ∧ t.pos.held = 131975 := by decide +kernel
/-- A pulse of input 4 that awaits its glitch minimum, and a check entry of a resolved record. -/
def awaiting : State :=
  let s := at' 2458000 { up with store := { up.store with inputs := up.store.inputs.set 4 { Input.reset with
    function := .check, glitchMin := 20, limit := 3 } } }
  s.setChk 4 fun _ => ⟨.pending 2457980, [⟨2, 599, 601, true, [⟨1, 2457000, 2457872, .present, none, false, false, false⟩]⟩], none, 0⟩
/-- The GATE channel of 13.2 with a window at its ON edge. -/
def gateReady : State :=
  let s := withRecords [blank 1] (at' (104 * 4096 + 2000 - 256) (line13 .valid))
  s.setCam 5 fun x => { x with schedule := [⟨1, 101, 104, some (2000, 1900)⟩] }

theorem witness_AdvanceReachesTheBlocks :
    let s := at' 100 up
    let run := inLine .run awaiting
    (s.rif.linkUp = true ∧ (1 : Byte) ≠ s.rif.own ∧ s.rif.own ≠ broadcast ∧ (1 : Byte).toNat = s.settings.driveNode ∧
      s.pos.state = .known ∧ s.Settled) ∧
    ¬(s.running = true ∧ (1024 < countStep 100 101 ∨ nextRaw 100 (countStep 100 101) + 64 < s.pos.held)) ∧
    ((speeding 3).settings.overspeed < (sampled 100 500 (speeding 3)).pos.v ∧ (sampled 100 500 (speeding 3)).pos.held ≤ 100) ∧
    (¬s.settings.overspeed < s.pos.v ∧ s.pos.held < nextRaw 100 (countStep 100 101)) ∧
    (s.sup.line ≠ .run ∧ run.sup.line = .run ∧ cutPitch 1792 1900 = none ∧ cutPitch 1791 1792 = some 1) ∧
    (s.running = false ∧ run.running = true) ∧ ((inLine .safe awaiting).sup.line = .safe ∧ run.sup.line ≠ .safe) ∧
    ((awaiting.chkInput 4).pulse = .pending 2457980 ∧ (2457980 : Int) + (awaiting.input 4).glitchMin ≤ awaiting.pos.held) ∧
    ((awaiting.setChk 4 fun x => { x with pulse := .pending 2457981 }).chkInput 4).pulse = .pending 2457981 ∧
      (awaiting.pos.held : Int) < 2457981 + (awaiting.input 4).glitchMin ∧
    up.camStep 5 = none ∧ (gateReady.camStep 5).isSome = true := by
  unfold State.Settled; decide +kernel
/-- R98 and R103 to R105: on the advance that reaches them, a pulse opens and a check closes, a defect without its pulse. -/
theorem test_checks_on_an_advance :
    let t := awaiting.chkAdvance 2457999 2458000
    (t.chkInput 4).pulse = .open 2457980 ∧ (t.chkInput 4).pending = [] ∧ (t.chkInput 4).lastClosed = some (2457000, 2457872) ∧
      (t.chkInput 4).consecutive = 1 ∧ (awaiting.chkAdvance 2458000 2458001).chkInput 4 ≠ t.chkInput 4 := by decide +kernel
/-- R65 and R7: every picked order takes CAM before TRQ, whatever number picks it. -/
theorem test_cam_before_trq : settlesFirst (advanceOrder 0) = true ∧ settlesFirst (advanceOrder 719) = true ∧
    advanceOrder 0 ≠ advanceOrder 719 := by decide
theorem witness_RunMotionIsHeldOrHalted :
    let s := inLine .run (at' 130950 up)
    (s.running = true ∧ s.pos.state = .known ∧ s.Settled ∧ exec .signalDetected s = .next s) ∧
      (s.rif.linkUp = true ∧ (1 : Byte) ≠ s.rif.own ∧ s.rif.own ≠ broadcast ∧ (1 : Byte).toNat = s.settings.driveNode ∧
        s.sup.lastSequence < 4294967295 ∧ s.sup.log.length < 16) ∧
      1024 < countStep s.pos.lastCount 903 ∧
      (countStep s.pos.lastCount 65349 ≤ 1024 ∧ nextRaw s.pos.raw (countStep s.pos.lastCount 65349) + 64 < s.pos.held) :=
  ⟨⟨rfl, rfl, rfl, rfl⟩, by decide, by decide, by decide⟩
theorem witness_MotionTimerExpiryLosesThePosition :
    up.pos.timer = none ∧ (at' 100 up).pos.timer = some 20 ∧ (at' 100 up).Settled ∧ (at' 100 up).running = false ∧
      (inLine .runout (at' 100 up)).running = true ∧ up.sup.lastSequence < 4294967295 ∧ up.sup.log.length < 16 := by
  unfold State.Settled; decide

/-! ### Witnesses: edge reports and pulses -/

/-- Input 4 has a function, and the map sends node 20's points to the inputs. -/
def mapped (fn : InFunction) (glitch : Nat) : State :=
  at' 2458000 { up with store := { up.store with
    inputs := up.store.inputs.set 4 { Input.reset with function := fn, glitchMin := glitch, limit := 3 }
    map := up.store.map.set 0 ⟨true, 320, 1008, 0⟩ } }
/-- With the pulse state of input 4. -/
def pulsed (p : Pulse) (s : State) : State := s.setChk 4 fun x => { x with pulse := p }

theorem witness_ForeignAndUnplacedFramesAreOnlyCounted :
    let s := mapped .check 0
    let found := s.mapEdge (BitVec.ofNat 12 ((20 : Byte).toNat * 16 + (4 : Byte).toNat))
    ((2 : Byte) ≠ s.rif.own ∧ (2 : Byte).toNat ≠ s.settings.driveNode) ∧
    (s.rif.linkUp = true ∧ (20 : Byte) ≠ s.rif.own ∧ s.rif.own ≠ broadcast ∧ (4 : Byte).toNat ≤ 15) ∧
      s.mapEdge (BitVec.ofNat 12 ((20 : Byte).toNat * 16 + (5 : Byte).toNat)) = none ∧ found ≠ none ∧
      { s.pos with state := .unknown }.state = .unknown ∧ s.pos.state = .known ∧ 512 < countStep s.pos.lastCount 33681 ∧
      (countStep s.pos.lastCount 29071 ≤ 512 ∧ countStep s.pos.lastCount 29071 < -4096) ∧
      ((at' 100 s).pos.raw : Int) + countStep 100 65535 < 0 := by decide
/-- The check of `awaiting` with its alternative passed, and after its close. -/
def passedCheck : State := awaiting.setChk 4 fun x => { x with
  pending := x.pending.map fun p => { p with alternatives := p.alternatives.map fun a => { a with passed := true } } }
def closedCheck : State := awaiting.setChk 4 fun x => { x with pending := [], lastClosed := some (2457000, 2457872) }

theorem witness_PlacedReportMovesThePulse :
    let s := mapped .check 20
    (s.rif.linkUp = true ∧ (20 : Byte) ≠ s.rif.own ∧ s.rif.own ≠ broadcast ∧ (4 : Byte).toNat ≤ 15 ∧ (1 : Byte).toNat ≤ 1 ∧
      s.mapEdge (BitVec.ofNat 12 ((20 : Byte).toNat * 16 + (4 : Byte).toNat)) = some 4 ∧ (s.input 4).function = .check ∧
      s.pos.state = .known) ∧
    (countStep s.pos.lastCount 33680 ≤ 512 ∧ -4096 ≤ countStep s.pos.lastCount 29072 ∧
      0 ≤ (s.pos.raw : Int) + countStep s.pos.lastCount 29072) ∧
    ((1 : Byte).toNat = if (s.input 4).activeLevel = .high then 1 else 0) ∧
    ¬((0 : Byte).toNat = if (s.input 4).activeLevel = .high then 1 else 0) ∧
    ((s.pos.held : Int) < 2457981 + 20 ∧ (2457980 : Int) + 20 ≤ s.pos.held) ∧
    ((pulsed (.open 5) s).chkInput 4).pulse ≠ .none ∧
    (((pulsed (.pending 2457981) s).chkInput 4).pulse = .pending 2457981 ∧ (2458000 : Int) - 2457981 < 20) ∧
    ((2457980 : Int) - 2457960 ≥ 20 ∧ ((pulsed (.open 2457960) (mapped .mark 20)).chkInput 4).pulse = .open 2457960 ∧
      ((mapped .mark 20).input 4).function = .mark ∧ ((mapped .splice 0).input 4).function = .splice ∧
      ((mapped .boxTaken 0).input 4).function = .boxTaken ∧ ((pulsed (.open 2457960) s).input 4).function ≠ .mark) ∧
    (((inLine .safe awaiting).sup.line = .safe ∧ awaiting.sup.line ≠ .safe) ∧
      (∃ p ∈ (awaiting.chkInput 4).pending, ∃ a ∈ p.alternatives, (a.start ≤ 2457000 ∧ 2457872 ≤ a.stop) ∧ a.passed = false) ∧
      (∃ p ∈ (passedCheck.chkInput 4).pending, ∃ a ∈ p.alternatives, a.start ≤ 2457000 ∧ 2457000 ≤ a.stop ∧ a.passed = true) ∧
      (closedCheck.chkInput 4).pending = [] ∧ (closedCheck.chkInput 4).lastClosed = some (2457000, 2457872) ∧
      (up.chkInput 4).pending = [] ∧ (up.chkInput 4).lastClosed = none) := by
  decide +kernel
/-- R102: a pulse in an open alternative is seen; one in a passed alternative or in the last closed window is late. -/
theorem test_check_pulse :
    let seen := fun (s : State) => (s.chkInput 4).pending.flatMap fun p => p.alternatives.map Alternative.seen
    seen (awaiting.routePulse 4 2457872 none) = [true] ∧ seen (awaiting.routePulse 4 2457873 none) = [false] ∧
      (passedCheck.routePulse 4 2457000 none).sup.counters.get ctrEdgesLate = 1 ∧
      (closedCheck.routePulse 4 2457872 none).sup.counters.get ctrEdgesLate = 1 ∧
      (closedCheck.routePulse 4 2456999 none).sup.counters.get ctrEdgesLate = 0 := by decide +kernel
theorem test_edge_starts_and_ends_a_pulse :
    let edge := fun (level : Byte) (count : Half) => Instr.edge 20 4 level count (frameCheck (edgeBody 20 4 level count))
    ((after (edge 1 33400) (mapped .check 20)).chkInput 4).pulse = .pending 2458232 ∧
      ((after (edge 0 33168) (pulsed (.open 2457900) (mapped .check 20))).chkInput 4).pulse = .none := by decide +kernel

/-! ### Witnesses: channels, inputs, map and settings -/

/-- The arguments that store the GATE channel of 13.2 in a channel, with a delay. -/
def gateArgs (channel : Byte) (delay : Half) : ChannelArgs := ⟨channel, 10, 0, 4, 3, delay, 0, 200, 2, 0, 0, 1⟩

theorem witness_ChannelSetByTheTests :
    let s := line13 .valid
    (s.Takes 62 1 ∧ s.sup.line = .idle) ∧ (inLine .safe s).sup.line ≠ .idle ∧ (inLine .safe s).Takes 62 1 ∧
    24 ≤ (24 : Byte).toNat ∧ (23 : Byte).toNat = (23 : Fin 24).val ∧
    channelRecord (gateArgs 23 20001) = none ∧ channelRecord { gateArgs 23 0 with holdMax := 17 } = none ∧
    (channelRecord (gateArgs 23 20000)).map Channel.function = some .gate ∧ (s.channel 5).function = .gate ∧
    channelRecord (gateArgs 5 4000) = some (s.channel 5) ∧
    (∀ d, d ≠ 5 → (s.channel d).function ≠ .gate) ∧
    (channelRecord (gateArgs 5 20000)).isSome ∧ channelRecord (gateArgs 5 20000) ≠ some (s.channel 5) ∧
    (∃ f, ((withLots [lot7 .queued] s).format f).namesChannel 5 = true ∧ (withLots [lot7 .queued] s).inUse f = true) ∧
    ∀ f, ¬((s.format f).namesChannel 5 = true ∧ s.inUse f = true) := by
  unfold State.Takes; decide +kernel
theorem test_channelSet_invalidates :
    let t := after (.channelSet 62 1 (gateArgs 5 20000)) (line13 .valid)
    (t.format 0).state = .invalid ∧ (t.channel 5).delay = 20000 ∧
      (after (.channelSet 62 1 (gateArgs 5 20000)) (withLots [lot7 .queued] (line13 .valid))).store = (line13 .valid).store := by
  decide +kernel

theorem witness_InputSetByTheTests :
    let s := line13 .valid
    let used := withLots [lot7 .queued] s
    (s.Takes 62 1 ∧ s.sup.line = .idle) ∧ (inLine .run s).sup.line ≠ .idle ∧ 16 ≤ (16 : Byte).toNat ∧
    (15 : Byte).toNat = (15 : Fin 16).val ∧ inputRecord ⟨15, 2, 31, 1, 0, 3⟩ = none ∧ inputRecord ⟨15, 2, 30, 1, 0, 15⟩ ≠ none ∧
    ((inputRecord ⟨15, 1, 0, 1, 0, 0⟩).map Input.function = some .mark ∧ (s.input 0).function = .mark) ∧
    inputRecord ⟨4, 2, 2, 1, 0, 3⟩ = some (s.input 4) ∧
    (inputRecord ⟨4, 2, 2, 1, 0, 4⟩ ≠ some (s.input 4) ∧ (inputRecord ⟨4, 2, 2, 1, 0, 4⟩).map Input.function = some .check) ∧
    (∃ f, (used.format f).namesInput used.store.inputs 4 = true ∧ used.inUse f = true) ∧
    ∀ f, ¬((s.format f).namesInput s.store.inputs 4 = true ∧ s.inUse f = true) := by
  unfold State.Takes; decide +kernel
/-- R18: an offset and a limit for a CHECK input alone, to 30 and 15. -/
theorem test_input_ranges : inputRecord ⟨15, 2, 30, 1, 255, 15⟩ = some ⟨.check, 30, .high, 255, 15⟩ ∧
    inputRecord ⟨15, 2, 30, 1, 0, 16⟩ = none ∧ inputRecord ⟨15, 3, 1, 0, 0, 0⟩ = none ∧ inputRecord ⟨15, 3, 0, 0, 0, 1⟩ = none ∧
      inputRecord ⟨15, 4, 0, 0, 9, 0⟩ = some ⟨.boxTaken, 0, .low, 9, 0⟩ ∧ inputRecord ⟨15, 5, 0, 0, 0, 0⟩ = none ∧
      inputRecord ⟨15, 4, 0, 2, 0, 0⟩ = none := by decide
theorem test_inputSet_clears_the_pulse :
    let t := after (.inputSet 62 1 ⟨4, 2, 2, 1, 0, 4⟩) (pulsed (.open 5) (line13 .valid))
    (t.chkInput 4).pulse = .none ∧ (t.format 0).state = .invalid := by decide +kernel

theorem witness_MapEntriesAreStoredAndDecide :
    let s := { up with store := { up.store with
      inputs := Vector.replicate 16 { Input.reset with function := .check }
      map := (up.store.map.set 0 ⟨true, 320, 1020, 4⟩).set 1 ⟨true, 352, 1008, 12⟩ } }
    let key : BitVec 12 := 355
    (up.Takes 62 1 ∧ up.sup.line = .idle ∧ (inLine .run up).sup.line ≠ .idle) ∧ 1 < (2 : Byte).toNat ∧ (1 : Byte).toNat ≤ 1 ∧
    16 ≤ (16 : Byte).toNat ∧ (15 : Byte).toNat = (15 : Fin 16).val ∧
    ¬((1024 : Half).toNat ≤ 1023 ∧ (0 : Half).toNat ≤ 1023 ∧ (0 : Byte).toNat ≤ 15) ∧
    ((1023 : Half).toNat ≤ 1023 ∧ (1023 : Half).toNat ≤ 1023 ∧ (15 : Byte).toNat ≤ 15) ∧
    (s.store.map.get 1).enable = true ∧
    (∀ n : Fin 10, (s.store.map.get 1).mask.getLsbD n = true → key.getLsbD n = (s.store.map.get 1).base.getLsbD n) ∧
    (∀ j < (1 : Fin 16), (s.store.map.get j).enable = true →
      ¬∀ n : Fin 10, (s.store.map.get j).mask.getLsbD n = true → key.getLsbD n = (s.store.map.get j).base.getLsbD n) ∧
    (s.store.map.get 1).first + (key &&& ~~~((s.store.map.get 1).mask.setWidth 12)).toNat = (15 : Fin 16).val ∧
    (s.input 15).function ≠ .unused ∧ (up.input 15).function = .unused ∧ (∀ k : Fin 16, (up.store.map.get k).enable = false) ∧
    (s.store.map.get 1).first + ((356 : BitVec 12) &&& ~~~((s.store.map.get 1).mask.setWidth 12)).toNat = 16 := by
  unfold State.Takes; decide +kernel

/-- SETTINGS_SET arguments with a drive node and a delivery offset. -/
def settingsArgs (drive offset : Byte) : SettingsArgs := ⟨drive, 2, 62, 20, 60, 1800, 4, offset, 20⟩

theorem witness_SettingsSetByTheTests :
    let s := line13 .valid
    let used := withLots [lot7 .queued] s
    let inRange := fun a : SettingsArgs =>
      (1 ≤ a.driveNode.toNat ∧ a.driveNode.toNat ≤ 61) ∧ (1 ≤ a.feedNode.toNat ∧ a.feedNode.toNat ≤ 61) ∧
      a.noticeAddress.toNat ≤ 63 ∧ (2 ≤ a.motionTimeout.toNat ∧ a.motionTimeout.toNat ≤ 50) ∧ a.cutMinimum.toNat ≤ 1800 ∧
      (100 ≤ a.overspeed.toNat ∧ a.overspeed.toNat ≤ 1900) ∧ (1 ≤ a.debounce.toNat ∧ a.debounce.toNat ≤ 15) ∧
      (2 ≤ a.deliveryOffset.toNat ∧ a.deliveryOffset.toNat ≤ 30) ∧ 1 ≤ a.boxDeadline.toNat
    (s.Takes 62 1 ∧ s.sup.line = .idle ∧ (inLine .safe s).sup.line ≠ .idle) ∧
    ¬inRange (settingsArgs 62 5) ∧ ¬inRange (settingsArgs 1 31) ∧ inRange (settingsArgs 61 30) ∧
    ((settingsArgs 61 30).deliveryOffset.toNat ≠ used.settings.deliveryOffset ∧ used.lot.table ≠ []) ∧
    s.lot.table = [] ∧ (settingsArgs 1 30).driveNode.toNat = s.settings.driveNode ∧
    (settingsArgs 61 30).driveNode.toNat ≠ s.settings.driveNode := by
  unfold State.Takes; decide +kernel
theorem test_settingsSet_offset_below_the_finger :
    let t := after (.settingsSet 62 1 (settingsArgs 1 3)) (line13 .valid)
    (t.format 0).state = .invalid ∧ t.settings.deliveryOffset = 3 ∧
      (after (.settingsSet 62 1 (settingsArgs 61 5)) (at' 100 (line13 .valid))).pos.state = .unknown := by decide +kernel

/-! ### Witnesses: formats -/

theorem witness_FormatRequestsRefuseUnknownIds : up.Takes 62 1 ∧ (0 : Byte).toNat = 0 ∧ 16 < (17 : Byte).toNat :=
  ⟨⟨rfl, by decide, by decide⟩, by decide, by decide⟩
theorem witness_FormatOpenAndEraseEmptyAFormat :
    let s := line13 .valid
    s.Takes 62 1 ∧ (withLots [lot7 .queued] s).inUse 0 = true ∧ s.inUse 0 = false ∧
      (s.store.formats.toList.map Format.windowCount).sum ≤ 512 ∧ (s.store.formats.toList.map Format.checkCount).sum ≤ 256 := by
  unfold State.Takes; decide +kernel
theorem test_formatErase_returns_entries :
    let s := line13 .valid
    s.store.freeWindows = 505 ∧ s.store.freeChecks = 255 ∧ (after (.formatErase 62 1 1) s).store.freeWindows = 512 ∧
      (after (.formatOpen 62 1 1) s).store.freeChecks = 256 := by decide +kernel

/-- The knife window of variant 0, as an item. -/
def knifeItem : LoadItem := ⟨3, 0, 0, 0, 100, 1, 0x90, 0, 0, 0⟩
/-- A format that holds the whole pool's windows but one. -/
def poolTight : State :=
  let p : Program := ⟨(List.finRange 24).map fun c => ⟨c, 0, 1⟩, []⟩
  let full : Format := { Format.blank .valid with programs := Vector.replicate 4 p }
  let rest : Format := { Format.blank .open with
    programs := updateAt (updateAt (Vector.replicate 4 Program.empty) 1 fun _ => p) 2 fun _ => ⟨p.windows.take 8, []⟩ }
  { up with store := { up.store with
      formats := Vector.ofFn fun f : Fin 16 => if f = 0 then rest else if f ≤ 5 then full else Format.blank .empty } }

theorem witness_FormatLoadByTheTests :
    let s := line13 .open
    (s.Takes 62 1 ∧ (s.format 0).state = .open) ∧ ((line13 .valid).format 0).state ≠ .open ∧
    ([] : List LoadItem).length = 0 ∧ 8 < (List.replicate 9 knifeItem).length ∧ readItem { knifeItem with kind := 5 } = none ∧
    ((List.replicate 8 knifeItem).length ≤ 8 ∧
      (List.replicate 8 knifeItem).map readItem = (List.replicate 8 (Load.window 0 ⟨0, 100, 400⟩)).map some) ∧
    poolTight.store.freeWindows = 0 ∧ (poolTight.format 0).state = .open ∧ poolTight.Takes 62 1 ∧
    ¬((poolTight.format 0).load (.window 0 ⟨0, 100, 400⟩)).windowCount ≤
      (poolTight.format 0).windowCount + poolTight.store.freeWindows := by
  unfold State.Takes; decide +kernel

/-- Items at the edges of their ranges: the largest values that pass, and the smallest that do not (R24, R28, R179). -/
theorem test_item_ranges :
    ([⟨1, 1, 0, 0, 0, 15, 0, 0, 0, 0⟩, ⟨1, 4, 0, 0, 4, 0, 0, 0, 0, 0⟩, ⟨2, 3, 1, 7, 255, 7, 255, 0, 0, 0⟩,
      ⟨3, 3, 23, 15, 255, 0, 0, 0, 0, 0⟩, ⟨4, 3, 15, 15, 255, 15, 255, 1, 255, 0⟩] : List LoadItem).all
        (fun i => (readItem i).isSome) = true ∧
    ([⟨1, 1, 0, 0, 0, 16, 0, 0, 0, 0⟩, ⟨1, 4, 0, 0, 4, 1, 0, 0, 0, 0⟩, ⟨1, 5, 0, 0, 0, 1, 0, 0, 0, 0⟩,
      ⟨2, 4, 0, 0, 0, 0, 0, 0, 0, 0⟩, ⟨2, 0, 1, 0, 5, 0, 4, 0, 0, 0⟩, ⟨3, 0, 0, 16, 0, 0, 0, 0, 0, 0⟩,
      ⟨3, 0, 0, 0, 5, 0, 5, 0, 0, 0⟩, ⟨4, 0, 0, 0, 0, 0, 0, 2, 255, 0⟩, ⟨4, 0, 0, 0, 0, 0, 0, 0, 24, 0⟩] : List LoadItem).all
        (fun i => (readItem i).isNone) = true := by decide
theorem witness_LoadItemsByRangeAndEffect :
    (format13.program 1).windows.Pairwise (fun a b => a.channel < b.channel) ∧
      (format13.program 1).checks.Pairwise (fun a b => a.input < b.input) ∧
      [1, 2, 3, 4].map (fun k : Byte => k.toNat) = [1, 2, 3, 4] ∧ (0 : Byte).toNat = 0 ∧ 4 < (5 : Byte).toNat := by decide

theorem witness_FormatCommitByTheGroups :
    let s := line13 .open
    let unwarned := { format13 with warn := 97 }
    let early := { store13 with settings := { store13.settings with deliveryOffset := 3 } }
    (s.Takes 62 1 ∧ (s.format 0).state = .open ∧ ((line13 .valid).format 0).state ≠ .open) ∧
    (∃ subjects rest, fieldChecks store13 unwarned = [[]] ++ subjects :: rest ∧ subjects ≠ []) ∧
    (∀ l ∈ fieldChecks store13 format13, l = []) ∧ (∀ l ∈ fieldChecks early format13, l = []) ∧
    (∃ subjects rest, timingChecks early early.settings.deliveryOffset format13 = [] ++ subjects :: rest ∧ subjects ≠ []) ∧
    ∀ l ∈ timingChecks store13 store13.settings.deliveryOffset format13, l = [] := by
  refine ⟨⟨⟨rfl, by decide, by decide⟩, by decide +kernel, by decide +kernel⟩, ⟨_, _, rfl, by decide +kernel⟩,
    by decide +kernel, by decide +kernel, ⟨_, _, rfl, by decide +kernel⟩, by decide +kernel⟩
/-- R32: each check fails on a format or a store spoiled in its one point, and passes on 13.2's. -/
theorem test_field_checks :
    let fails := fun (n : Nat) (st : Store) (f : Format) => ((fieldChecks st f)[n - 1]?.getD []) != []
    let channel := fun (c : Fin 24) (g : Channel → Channel) => { store13 with channels := updateAt store13.channels c g }
    let input := fun (i : Fin 16) => { store13 with inputs := updateAt store13.inputs i fun x => { x with function := .unused } }
    fails 1 store13 { format13 with half := 0 } ∧ fails 2 store13 { format13 with warn := 97 } ∧
      fails 3 store13 { format13 with classes := updateAt format13.classes 0 fun _ => none } ∧
      fails 4 store13 { format13 with classes := updateAt format13.classes 1 fun _ => some ⟨80, 140⟩ } ∧
      fails 5 store13 { format13 with classes := updateAt format13.classes 1 fun _ => none } ∧ fails 6 (input 0) format13 ∧
      fails 7 (channel 2 fun c => { c with source := .disabled }) format13 ∧
      fails 8 (channel 2 fun c => { c with source := .disabled }) format13 ∧
      fails 9 (channel 5 fun c => { c with source := .disabled }) format13 ∧
      fails 10 store13 { format13 with programs := updateAt format13.programs 1 fun p =>
        { p with windows := insertWindow ⟨5, 2000, 1901⟩ p.windows } } ∧
      fails 11 (input 4) format13 ∧
      fails 12 store13 { format13 with programs := updateAt format13.programs 1 fun p =>
        { p with windows := p.windows.filter fun w => w.channel != 2 } } := by decide +kernel
theorem witness_CommitChecksAreTheirConditions :
    store13.channelOf .gate = some 5 ∧ store13.channelOf .finger = some 6 ∧
      (∀ v, (format13.program v).windows ≠ [] ∨ (format13.program v).checks ≠ [] →
        (format13.program v).window? 5 = some ⟨5, 2000, 1900⟩) ∧
      (format13.program 1).window? 5 = some ⟨5, 2000, 1900⟩ := by decide +kernel

/-! ### Witnesses: reads -/

/-- A full lot table. -/
def eightLots : List Lot := (List.range 8).map fun n => { lot7 .queued with key := ⟨20 + n, 0⟩ }
/-- Two box entries of lot 9 with these deadlines. -/
def boxed (a b : Nat) (s : State) : State :=
  { s with lot := { s.lot with boxes := [a, b].map fun n => ⟨⟨⟨9, 0⟩, n, 4, false, false, false⟩, n⟩ } }

theorem witness_ReadsOnlyAnswer :
    let s := { fullLog with
      lot := { fullLog.lot with table := [lot7 .closed, { lot7 .queued with key := ⟨8, 0⟩ }] }
      trq := ⟨[blank 1, blank 2], 2⟩ }
    (62 : Byte) ≠ s.rif.own ∧ s.rif.linkUp = true ∧ s.Takes 62 1 ∧ 1 < (2 : Byte).toNat ∧
    (∀ l ∈ s.lot.table, l.key ≠ ⟨(7 : Half).toNat, (1 : Byte).toNat⟩) ∧ s.lot.table.length ≤ (2 : Byte).toNat ∧
    s.lot.table = [lot7 .closed] ++ { lot7 .queued with key := ⟨8, 0⟩ } :: [] ∧
    (lot7 .closed).key ≠ ⟨8, 0⟩ ∧ (1 : Byte).toNat = [lot7 .closed].length ∧
    s.Takes 62 (partCount (8 + 57 * s.trq.queue.length)) ∧
    s.Takes 62 (partCount (7 + 15 * (s.sup.log.filter fun r => (0 : Quad).toNat ≤ r.sequence).length)) ∧
    (((line13 .valid).format 0).program 1).windows[0]? = some ⟨0, 100, 400⟩ ∧ 16 * (1 - 1) + 3 = 3 + 0 ∧
    (((line13 .valid).format 0).program 1).checks[0]? = some ⟨4, 1500, 2500, .present, some 2⟩ ∧
    16 * (1 - 1) + 7 = 3 + 4 + 0 ∧ ((line13 .valid).format 0).classes.get 1 = some ⟨100, 140⟩ ∧ (blank 1).variant = none ∧
    { blank 1 with variant := some 3, error := some (-1) }.error = some (-1) := by
  unfold State.Takes; decide +kernel
/-- 12.3, 12.4: the check entry of 13.2 is the eighth of page 1, after three windows of variant 0 and four of variant 1, and
page 2 is empty. -/
theorem test_formatRead_pages : ((pageEntries (line13 .valid) 0 1).drop 64) = [4, 1, 4, 5, 220, 9, 196, 1, 2] ∧
    pageEntries (line13 .valid) 0 2 = [0] := by decide +kernel
/-- 12.4: a registration error of −1, three failed inputs two to a byte, no slot. -/
theorem test_record_bytes :
    let r := { blank 1 with variant := some 3, error := some (-1), failed := [4, 15, 1], suppressed := [2, 9] }
    (r.bytes.drop 12).take 3 = [3, 255, 255] ∧ (r.bytes.drop 23).take 3 = [3, 0x4F, 0x10] ∧
      (r.bytes.drop 32).take 4 = [2, 2, 9, 0] ∧ fieldAt r.bytes 18 5 = 0 := by decide +kernel
/-- 12: a record is 57 bytes, so four records and the head fill a part of 235, and five need two; 16 faults need two. -/
theorem test_parts : trackParts (withRecords ((List.range 3).map blank) up) = 1 ∧
    trackParts (withRecords ((List.range 4).map blank) up) = 2 ∧ logParts 0 fullLog = 2 ∧ logParts 26 fullLog = 1 := by
  decide +kernel
theorem test_statusRead_clears_the_flags :
    let s := { up with reg := { up.reg with lost := true }, rif := { up.rif with linkDownFlag := true } }
    (after (.statusRead 62 1) s).reg.lost = false ∧ (after (.statusRead 62 1) s).rif.linkDownFlag = false ∧
      (statusPartOne s)[27]? = some 1 ∧ (statusPartOne s)[29]? = some 1 := by decide +kernel
theorem witness_StatusAndCountersReadsClearWhatTheyShow :
    up.Takes 62 2 ∧ up.Takes 62 1 ∧ 64 ≤ (64 : Byte).toNat ∧ 2 ≤ (2 : Byte).toNat ∧
      ¬((63 : Byte) = 0 ∨ 64 ≤ (63 : Byte).toNat ∨ 2 ≤ (1 : Byte).toNat) ∧
      (withLots eightLots up).lot.table[7]? = some { lot7 .queued with key := ⟨27, 0⟩ } ∧ up.lot.table.length ≤ 0 ∧
      (boxed 1 2 up).lot.boxes[1]?.isSome ∧ up.lot.boxes.length ≤ 1 :=
  ⟨⟨rfl, by decide, by decide⟩, ⟨rfl, by decide, by decide⟩, by decide +kernel⟩
/-- 10.7: a read of group Inputs with clear empties counters 2 to 7. -/
theorem test_countersRead_clears_inputs :
    let s := { up with sup := { up.sup with counters := Vector.replicate 38 65535 } }
    (after (.countersRead 62 1 2 1) s).sup.counters.toList.take 9 = [65535, 65535, 0, 0, 0, 0, 0, 0, 65535] := by
  decide +kernel
theorem witness_LogClearByTheTable :
    up.Takes 62 1 ∧ (up.sup.log = [] ∧ up.sup.overflow = 0) ∧ fullLog.Takes 62 1 ∧
      ¬(fullLog.sup.log = [] ∧ fullLog.sup.overflow = 0) ∧ (40 : Quad).toNat = fullLog.sup.lastSequence ∧
      (39 : Quad).toNat ≠ fullLog.sup.lastSequence := by
  unfold State.Takes; decide +kernel

/-! ### Witnesses: lots -/

theorem witness_LotAddByTheTests :
    let s := line13 .valid
    let inRange := fun a : LotArgs => 1 ≤ a.id.toNat ∧ (1 ≤ a.target.toNat ∧ a.target.toNat ≤ 1000000) ∧
      (1 ≤ a.batchSize.toNat ∧ a.batchSize.toNat ≤ 5000)
    s.Takes 62 1 ∧ 1 < (2 : Byte).toNat ∧ (1 : Byte).toNat ≤ 1 ∧ (0 : Byte).toNat = 0 ∧ 16 < (17 : Byte).toNat ∧
    (16 : Byte).toNat = (15 : Fin 16).val + 1 ∧ ¬inRange ⟨0, 1, 6, 4, 1⟩ ∧ ¬inRange ⟨7, 1, 1000001, 4, 1⟩ ∧
    ¬inRange ⟨7, 1, 6, 5001, 1⟩ ∧ inRange ⟨7, 1, 1000000, 5000, 1⟩ ∧
    (∃ l ∈ (withLots [lot7 .closed] s).lot.table, l.key = ⟨(7 : Half).toNat, 0⟩) ∧
    (¬∃ l ∈ s.lot.table, l.key = ⟨(7 : Half).toNat, 0⟩) ∧ (s.format 1).state ≠ .valid ∧ (s.format 0).state = .valid ∧
    (8 ≤ (withLots eightLots s).lot.table.length ∧
      ¬∃ l ∈ (withLots eightLots s).lot.table, l.key = ⟨(7 : Half).toNat, 0⟩) ∧ s.lot.table.length < 8 := by
  unfold State.Takes; decide +kernel
theorem test_lotAdd : (after (.lotAdd 62 6 ⟨7, 1, 6, 4, 1⟩) (line13 .valid)).lot.table = [lot7 .queued] := by decide +kernel
theorem witness_LotCancelByTheState :
    let s := up
    s.Takes 62 1 ∧ s.Settled ∧ (∀ l ∈ s.lot.table, l.key ≠ ⟨(7 : Half).toNat, (0 : Byte).toNat⟩) ∧
    (∀ st, (withLots [lot7 st] s).lot.table = [] ++ lot7 st :: []) ∧
    (lot7 .queued).key = ⟨(7 : Half).toNat, (0 : Byte).toNat⟩ ∧ (lot7 .queued).state = .queued ∧ (lot7 .closed).state = .closed ∧
    ({ lot7 .cutting with inFlight := 1 }.state = .cutting ∧ 0 < { lot7 .cutting with inFlight := 1 }.inFlight) ∧
    (lot7 .cutting).inFlight = 0 ∧ ¬(0 < (lot7 .cutting).delivered ∨ (lot7 .cutting).contaminated = true) ∧
    0 < { lot7 .cutting with delivered := 1 }.delivered ∧ s.lot.boxes.length < 2 ∧ (busy s).rif.tx ≠ .idle ∧
    4 ≤ (busy s).rif.freePlaces :=
  ⟨⟨rfl, by decide, by decide⟩, rfl, nofun, fun _ => rfl, by decide⟩
/-- R133 and R139: a CUTTING lot with none in flight ends, its notice ahead of the answer ENDED. -/
theorem test_lotCancel_ends_a_lot :
    let t := after (.lotCancel 62 1 7 0) (withLots [lot7 .cutting] (busy up))
    t.lot.table = [] ∧ t.rif.management = [.notice up.settings.noticeAddress (.lotDone
      ⟨⟨7, 0⟩, 0, 6, 4, 0, 0, 0, 0, 0, 0, 6, .disabled, none⟩), .response ⟨62, 11, 1, .accepted, 1, true, [2]⟩] := by
  decide +kernel
theorem test_lotCancel_closes_a_cutting_lot :
    (after (.lotCancel 62 1 7 0) (withLots [{ lot7 .cutting with inFlight := 1 }] up)).lot.table =
      [{ lot7 .closed with makeUp := false, inFlight := 1 }] := by decide +kernel

/-! ### Witnesses: line states -/

theorem witness_LineStartByTheTests :
    let s := withLots [lot7 .queued] (at' 100 (busy (line13 .valid)))
    let f := s.format 0
    (s.Takes 62 1 ∧ s.Settled ∧ s.sup.line = .idle) ∧ (inLine .safe s).sup.line ≠ .idle ∧
    (line13 .valid).pos.state = .unknown ∧ s.pos.state = .known ∧
    (∀ l ∈ (withLots [lot7 .closed] s).lot.table, l.state = .closed) ∧
    { s.rif with outbound := List.replicate 62 (.drive 1 .run) }.outbound.length ≤ 62 ∧
    (withLots [lot7 .closed, lot7 .cutting] s).cuttingLot = some (lot7 .cutting) ∧
    (s.cuttingLot = none ∧ s.headQueued = some (lot7 .queued)) ∧ s.reg.trimClass ≠ some f.sizeClass ∧
    { s.reg with trimClass := some 1 }.trimClass = some f.sizeClass ∧ s.rif.tx ≠ .idle ∧ 2 ≤ s.rif.freePlaces := by
  unfold State.Takes State.Settled; decide +kernel
theorem test_lineStart_enters_RUN :
    let t := after (.lineStart 62 9) (withLots [lot7 .queued] (at' 100 (busy (line13 .valid))))
    t.sup.line = .run ∧ t.lot.runClass = some 1 ∧ t.reg.lock = .search ∧
      t.rif.outbound = [.trim 2 0, .drive 1 .run] := by decide +kernel
theorem witness_LineStopRunsOut :
    let s := inLine .run (busy up)
    (s.Takes 62 1 ∧ s.Settled) ∧ up.sup.line ≠ .run ∧ s.sup.line = .run ∧ (withRecords [blank 1] s).trq.queue ≠ [] ∧
    s.trq.queue = [] ∧ s.rif.outbound.length ≤ 39 ∧ s.rif.tx ≠ .idle ∧ 2 ≤ s.rif.freePlaces := by
  unfold State.Takes State.Settled; decide +kernel
theorem test_lineStop :
    (after (.lineStop 62 1) (withRecords [blank 1] (inLine .run up))).sup.line = .runout ∧
      (after (.lineStop 62 1) (inLine .run up)).sup.line = .idle := by decide +kernel
theorem witness_LineHaltEntersSafe :
    let s := busy (line13 .valid)
    (s.Takes 62 1 ∧ s.Settled) ∧ (inLine .safe s).sup.line = .safe ∧ s.sup.line ≠ .safe ∧ s.rif.tx ≠ .idle ∧
    2 ≤ s.rif.freePlaces ∧ (s.channel 5).source ≠ .disabled ∧ (s.channel 5).safeState = .off ∧
    { s.channel 5 with safeState := .on }.safeState = .on ∧ ¬(s.channel 1).source ≠ .disabled := by
  unfold State.Takes State.Settled; decide +kernel
theorem test_lineHalt_frames :
    let t := after (.lineHalt 62 1) (busy (line13 .valid))
    t.sup.line = .safe ∧ t.rif.outbound = [.drive 1 .halt, .output 10 0 false true 0 0 0, .output 10 0 false true 2 0 0,
      .output 10 0 false true 5 0 0, .output 10 0 false true 6 0 0] := by decide +kernel
theorem witness_LineClearPurges :
    let s := inLine .safe (busy (withRecords [blank 1] (withLots [{ lot7 .cutting with inFlight := 1, cut := 1 }] up)))
    s.Takes 62 1 ∧ s.Settled ∧ up.sup.line ≠ .safe ∧ s.sup.line = .safe ∧ s.rif.tx ≠ .idle ∧
      s.LotsOrdered ∧ s.FlightsCounted ∧ ∀ l ∈ s.lot.table, l.state ≠ .closed ∧ l.purged + l.inFlight < 4294967296 := by
  unfold State.Takes State.Settled State.LotsOrdered State.FlightsCounted; decide +kernel
theorem test_lineClear_purges :
    let t := after (.lineClear 62 1)
      (inLine .safe (withRecords [blank 1] (withLots [{ lot7 .cutting with inFlight := 1, cut := 1 }] up)))
    t.sup.line = .idle ∧ t.trq.queue = [] ∧ t.lot.table = [{ lot7 .cutting with cut := 1, purged := 1 }] := by decide +kernel
theorem witness_LineResetEmptiesTheBlocks :
    let s := inLine .safe (busy up)
    (s.Takes 62 1 ∧ s.Settled ∧ s.running = false) ∧ (inLine .runout s).running = true ∧ s.rif.outbound.length < 64 ∧
    s.rif.tx ≠ .idle ∧ 2 ≤ s.rif.freePlaces := by
  unfold State.Takes State.Settled; decide +kernel
theorem test_lineReset :
    let t := after (.lineReset 62 1) (inLine .safe (busy (withRecords [blank 1] (withLots [lot7 .closed] up))))
    t.sup.line = .idle ∧ t.lot.table = [] ∧ t.trq = ⟨[], 1⟩ ∧ t.rif.outbound = [.trim 2 0] := by decide +kernel

/-- Channel 23 driven by MANUAL_SET. -/
def manual : State :=
  { up with store := { up.store with channels := up.store.channels.set 23 { Channel.reset with node := 12, source := .manual } } }

theorem witness_ManualSetByTheTests :
    (manual.Takes 62 1 ∧ manual.Settled ∧ manual.sup.line = .idle) ∧ (inLine .run manual).sup.line ≠ .idle ∧
    24 ≤ (24 : Byte).toNat ∧ (23 : Byte).toNat = (23 : Fin 24).val ∧ 1 < (2 : Byte).toNat ∧ (manual.channel 22).source ≠ .manual ∧
    (1 : Byte).toNat ≤ 1 ∧ (manual.channel 23).source = .manual ∧ manual.rif.outbound.length < 64 := by
  unfold State.Takes State.Settled; decide +kernel
theorem test_manualSet : ((after (.manualSet 62 1 23 1) manual).camChannel 23).level = .on ∧
    (after (.manualSet 62 1 23 1) (busy manual)).rif.outbound = [.output 12 0 true true 23 0 0] := by decide +kernel
theorem witness_LineMovesByTheTransitions :
    let s := withLots [lot7 .queued] (at' 100 (line13 .valid))
    let safe := inLine .safe up
    let runs := withRecords [blank 1] (inLine .run up)
    (s.Settled ∧ exec (.lineStart 62 9) s = .next (after (.lineStart 62 9) s) ∧ (after (.lineStart 62 9) s).sup.line = .run) ∧
    (safe.Settled ∧ exec (.lineClear 62 9) safe = .next (after (.lineClear 62 9) safe) ∧ safe.sup.line = .safe) ∧
    runs.Settled ∧ exec (.lineStop 62 9) runs = .next (after (.lineStop 62 9) runs) ∧
      (after (.lineStop 62 9) runs).sup.line = .runout :=
  ⟨⟨rfl, rfl, by decide +kernel⟩, ⟨rfl, rfl, rfl⟩, rfl, rfl, by decide +kernel⟩

/-! ### Witnesses: faults and registration -/

theorem witness_RaisingAFaultByItsSteps :
    let last := { up with sup := { up.sup with lastSequence := 4294967295 } }
    (up.sup.lastSequence ≠ 4294967295 ∧ up.sup.log.length < 16) ∧
    ¬(last.sup.lastSequence ≠ 4294967295 ∧ last.sup.log.length < 16) ∧
    ¬(fullLog.sup.lastSequence ≠ 4294967295 ∧ fullLog.sup.log.length < 16) ∧
    up.rif.management.length + up.rif.reserved < 16 ∧ (busy up).rif.tx ≠ .idle ∧
    16 ≤ (crowded up).rif.management.length + (crowded up).rif.reserved ∧ up.Settled ∧ up.sup.line ≠ .safe ∧
    (inLine .safe up).sup.line = .safe ∧ (withRecords [blank 1] (inLine .run up)).trq.queue ≠ [] ∧
    (inLine .run up).sup.line = .run := by
  unfold State.Settled; decide +kernel

/-- The settings in force of the examples of 3.5. -/
def inForce : RegSettings := ⟨24, 8, 16, 256, 3, 4, 2⟩
/-- REG in a lock state with those settings. -/
def locked (l : LockState) (s : State) : State :=
  { s with reg := { s.reg with lock := l, inForce := some inForce, trimClass := some 1 } }

theorem witness_LockMovesByTheDecision :
    let good := fun error : Option Int => ∃ e ∈ error, -(inForce.lockWindow : Int) ≤ e ∧ e ≤ inForce.lockWindow
    (∀ l, (locked l up).reg.inForce = some inForce ∧ (locked l up).reg.lock = l) ∧
    good (some 24) ∧ good (some (-24)) ∧ ¬good (some 25) ∧ ¬good none ∧ (locked .acquire up).reg.matchCount ≠ 2 ∧
    { (locked .acquire up).reg with matchCount := 2 }.matchCount = 2 ∧
    (locked .locked up).reg.missCount + 1 < inForce.lossLimit ∧
    inForce.lossLimit ≤ { (locked .locked up).reg with missCount := 2 }.missCount + 1 ∧ (locked .search up).reg.lock ≠ .off := by
  refine ⟨fun l => by cases l <;> decide, ⟨24, rfl, by decide⟩, ⟨-24, rfl, by decide⟩, ?_, ?_, by decide, by decide,
    by decide, by decide, by decide⟩
  · rintro ⟨e, he, -, h⟩; cases he; exact absurd h (by decide)
  · rintro ⟨e, he, -⟩; cases he
/-- 3.7 and R49: three good marks lock; the loss limit leaves LOCKED and sets the lost flag; a splice loads the holdoff. -/
theorem test_lock_moves :
    ((((locked .search up).lockMark (some 24)).lockMark (some 0)).lockMark (some (-24))).reg.lock = .locked ∧
      ((((locked .locked up).lockMark none).lockMark none).lockMark none).reg.lost = true ∧
      (locked .locked up).splicePulse.reg.holdoff = 4 := by decide +kernel
theorem witness_TrimFollowsTheError :
    let s := locked .locked (busy up)
    (s.reg.inForce = some inForce ∧ s.reg.lock = .locked ∧ s.rif.outbound.length < 64 ∧ s.rif.tx ≠ .idle) ∧
    correctedTrim inForce 0 0 = 0 ∧ (correctedTrim inForce (-250) 40 = -256 ∧ correctedTrim inForce (-250) 40 ≠ -250) ∧
    (correctedTrim inForce 0 13 ≠ 0 ∧ ¬(0 < inForce.trimMax ∧
      (correctedTrim inForce 0 13 = inForce.trimMax ∨ correctedTrim inForce 0 13 = -(inForce.trimMax : Int)))) := by
  decide +kernel

/-- The line of 13.2 with record 1, born at pitch 101, its pending mark and a candidate of it. -/
def marked (candidate : Option Candidate) : State :=
  let s := withRecords [blank 1] (line13 .valid)
  { s with reg := { s.reg with marks := [⟨1, 101, 414096, 414496, candidate⟩] } }

theorem witness_MarksAreKeptAndDecided :
    let s := marked none
    let lead : Int := 414496
    let inside := fun (x : Int) => (101 * 4096 + 600 : Int) - 200 ≤ x ∧ x ≤ (101 * 4096 + 600 : Int) + 200
    ((line13 .valid).reg.span = 0 ∧ 0 < { s.reg with span := 2 }.span ∧ s.trq.queue = [] ++ [Record.born 1 101 ⟨7, 0⟩ 0]) ∧
    (inside lead ∧ inside 414096 ∧ ¬inside 414497 ∧ ¬inside 414095) ∧ (s.format 0).nominal = 600 ∧ (s.format 0).half = 200 ∧
    s.sup.line ≠ .safe ∧ (inLine .safe s).sup.line = .safe ∧
    (s.reg.marks = [] ++ ⟨1, 101, 414096, 414496, none⟩ :: [] ∧ ∀ m ∈ up.reg.marks, m.serial ≠ 1) ∧
    (some (⟨lead, none⟩ : Candidate)).isSome = true ∧
    ({ s.reg with openCandidate := some lead }.openCandidate = some lead ∧ s.reg.openCandidate ≠ some lead ∧
      (marked (some ⟨lead, none⟩)).reg.marks = [] ++ ⟨1, 101, 414096, 414496, some ⟨lead, none⟩⟩ :: []) ∧
    ((40 : Int) ≤ 80 ∧ ¬((40 : Int) ≤ 39) ∧ ¬((100 : Int) ≤ 99) ∧ (140 : Int) ≤ 140) ∧
    ((blank 1).variant = none ∧ (blank 1).error = none ∧ (blank 1).final = none ∧
      { blank 1 with final := some .good }.final ≠ none) ∧
    ((s.format 0).warn < (97 : Int).natAbs ∧ (s.format 0).reject < (97 : Int).natAbs ∧
      ¬(s.format 0).reject < (-96 : Int).natAbs ∧ (s.format 0).acceptUnlocked = true) := by decide +kernel
/-- 3.5 and R38 to R40: the window of the mark, its candidate, the width that comes later, and the classes of 13.2. -/
theorem test_marks :
    let s := withRecords [blank 1] (line13 .valid)
    (s.regCreate (blank 1)).reg.marks = (marked none).reg.marks ∧
      ((marked none).markPulse 414496 none).reg.marks = (marked (some ⟨414496, none⟩)).reg.marks ∧
      (((marked none).markPulse 414496 none).markWidth 414496 80).reg.marks = (marked (some ⟨414496, some 80⟩)).reg.marks ∧
      ((marked (some ⟨414496, none⟩)).markPulse 414496 none).sup.counters.get ctrMarksExtra = 1 ∧
      classify format13 101 (some ⟨414306, some 140⟩) = .read 1 10 ∧ classify format13 101 (some ⟨414306, some 81⟩) = .unreadable ∧
      classify format13 101 none = .missing := by decide +kernel

/-! ### Witnesses: blanks -/

/-- Record 1 settled, between two open ones. -/
def settled1 : Record := { blank 1 with final := some .good, slot := some ⟨1, 1, false⟩ }

theorem witness_DefectIsAddedOnceOrCounted :
    (∀ r ∈ (withRecords [settled1] up).trq.queue, r.serial = 1 → r.final.isSome = true) ∧
    (∀ r ∈ up.trq.queue, r.serial = 1 → r.final.isSome = true) ∧
    (withRecords [settled1, blank 2, blank 3] up).trq.queue = [settled1] ++ blank 2 :: [blank 3] ∧ (blank 2).serial = 2 ∧
    (blank 2).final = none ∧ (∀ x ∈ [settled1] ++ [blank 3], x.serial ≠ 2) ∧ (blank 2).defects.has .check = false := by
  decide
/-- A gate whose active OFF ends within the merge gap of the window at its head, with a merge count. -/
def gateMerging (merges : Nat) : State :=
  gateReady.setCam 5 fun x => { x with activeOff := some ⟨0, 104, 1900, 0, false⟩, merges := merges }

theorem witness_FinalPointSettlesTheBlank :
    let s := withRecords [settled1, blank 2, blank 3] (withLots [lot7 .closed] up)
    let s' := withRecords [settled1, blank 2] (withLots [{ lot7 .closed with openBatch := some (1, 1) }] up)
    (s.trq.queue = [settled1] ++ blank 2 :: [blank 3] ∧ (∀ x ∈ [settled1] ++ [blank 3], x.serial ≠ (blank 2).serial) ∧
      s.lot.table = [] ++ lot7 .closed :: [] ∧ (lot7 .closed).key = (blank 2).lot ∧
      ∀ x ∈ ([] : List Lot) ++ [], x.key ≠ (lot7 .closed).key) ∧
    ¬(∀ x ∈ [settled1] ++ [blank 3], x.lot = (blank 2).lot → x.final.isSome = true) ∧
    s'.trq.queue = [settled1] ++ blank 2 :: [] ∧
    (∀ x ∈ [settled1] ++ [], x.lot = (blank 2).lot → x.final.isSome = true) ∧
    { lot7 .closed with openBatch := some (1, 1) }.openBatch.isSome = true ∧
    ¬((lot7 .cutting).batchSize ≤ 0 + 1 ∨ (lot7 .cutting).target ≤ (lot7 .cutting).finalGood + 1) ∧
    { lot7 .cutting with openBatch := some (1, 3) }.batchSize ≤ 3 + 1 ∧
    { lot7 .cutting with finalGood := 5 }.target ≤ 5 + 1 ∧
    ((blank 2).reject = false ∧ { blank 2 with poisoned := true, defects := { (blank 2).defects with splice := true } }.reject = true) ∧
    ((gateMerging 2).camChannel 5).activeOff = some ⟨0, 104, 1900, 0, false⟩ ∧
      ((gateMerging 2).onFiring 5 104 2000 ≤ (gateMerging 2).offFiring 5 ⟨0, 104, 1900, 0, false⟩ + ((gateMerging 2).channel 5).mergeGap ∧
      ((gateMerging 2).channel 5).holdMax ≤ 2 ∧ ¬((gateMerging 1).channel 5).holdMax ≤ 1) := by decide +kernel
/-- 7.8: the fourth good blank of a batch of four ends it; the fifth opens batch 2 (R114). -/
theorem test_slots :
    goodFinal { lot7 .cutting with openBatch := some (1, 3), nextBatch := 2 } false =
      (⟨1, 4, true⟩, { lot7 .cutting with finalGood := 1, nextBatch := 2 }) ∧
    goodFinal { lot7 .cutting with nextBatch := 2 } false =
      (⟨2, 1, false⟩, { lot7 .cutting with finalGood := 1, openBatch := some (2, 1), nextBatch := 3 }) := by decide

/-! ### Witnesses: lots, batches and boxes -/

/-- Fast enough to cut, with a lot table, in RUN with running class 1. -/
def cutting (st : FormatState) (l : List Lot) : State :=
  let s := withLots l (inLine .run (at' (99 * 4096) (line13 st)))
  { s with pos := { s.pos with s := 4096, v := 60 }, lot := { s.lot with runClass := some 1 } }

/-- Lot 7 with its target committed, and one blank in flight. -/
def done : Lot := { lot7 .cutting with cut := 6, finalGood := 6, stacked := 5, inFlight := 1 }

theorem witness_CutDecisionByItsSteps :
    let needed := fun (s : State) (c : Fin 24) => (s.format 0).required.getLsbD c.val = true ∨
      (s.channel c).function = .knife ∨ (s.channel c).function = .gate ∨ (s.channel c).function = .finger
    let missing := fun (s : State) c => needed s c ∧ (s.channel c).source ≠ .cam
    let s := cutting .valid [lot7 .queued]
    let idle2 := { s with store := { s.store with
      channels := updateAt s.store.channels 2 fun c => { c with source := .disabled } } }
    let altered := { s with store := { s.store with formats := updateAt s.store.formats 0 fun f => { f with warn := 47 } } }
    ((0 : Nat) < 1024 ∧ (1024 : Nat) ≤ 0 + 1024) ∧ (line13 .valid).pos.v < (line13 .valid).settings.cutMinimum ∧
    ¬s.pos.v < s.settings.cutMinimum ∧
    ((cutting .valid [lot7 .cutting]).LotsOrdered ∧ lot7 .cutting ∈ (cutting .valid [lot7 .cutting]).lot.table ∧
      (cutting .valid [lot7 .cutting]).committed (lot7 .cutting) < (lot7 .cutting).target ∧ (lot7 .cutting).cut < 4294967295) ∧
    ((cutting .valid [lot7 .cutting]).lot.table = [] ++ lot7 .cutting :: [] ∧
      ∀ x ∈ ([] : List Lot) ++ [], x.key ≠ (lot7 .cutting).key ∧ x.state ≠ .cutting) ∧
    ((cutting .valid [done]).lot.table = [] ++ done :: [] ∧ done.target ≤ (cutting .valid [done]).committed done ∧
      done.inFlight ≠ 0 ∧ { done with inFlight := 0 }.inFlight = 0) ∧
    ((1024 : Nat) < 4294967295 * 4096 + 1792) ∧
    (∀ l ∈ (cutting .valid [lot7 .closed]).lot.table, l.state = .closed) ∧
    (s.lot.table = [] ++ lot7 .queued :: [] ∧ (lot7 .queued).state = .queued) ∧
    ((cutting .invalid [lot7 .queued]).format 0).state ≠ .valid ∧
    ((s.format 0).state = .valid ∧ (s.format 0).contentSum 1 = (s.format 0).storedSum) ∧
    ((altered.format 0).state = .valid ∧ (altered.format 0).contentSum 1 ≠ (altered.format 0).storedSum) ∧
    (missing idle2 2 ∧ ∀ d < 2, ¬missing idle2 d) ∧ (∀ c, ¬missing s c) ∧
    { s.lot with runClass := some 2 }.runClass ≠ some (s.format 0).sizeClass ∧ s.lot.runClass = some (s.format 0).sizeClass := by
  unfold State.LotsOrdered; decide +kernel
/-- R135 step 2 and R136: a CUTTING lot at its target closes, and the head QUEUED lot is admitted in the same decision. -/
theorem test_cut_decision_closes :
    ((cutting .valid [done, { lot7 .queued with key := ⟨8, 0⟩ }]).cutDecision 100).lot.table.map (fun l => (l.key, l.state)) =
      [(⟨7, 0⟩, .closed), (⟨8, 0⟩, .cutting)] := by decide +kernel
/-- R57 and R138: an admitted lot's cut counts it and sets up its mark, its knife window and its check. -/
theorem test_cut_sets_up_the_blocks :
    let t := (cutting .valid [lot7 .queued]).cutDecision 101
    t.lot.table.map (fun l => (l.state, l.cut, l.inFlight)) = [(.cutting, 1, 1)] ∧ t.reg.marks.map PendingMark.serial = [1] ∧
      (t.camChannel 0).schedule.map Window.target = [101] ∧ (t.chkInput 4).pending.map PendingCheck.target = [103] := by
  decide +kernel
theorem test_cut_decision :
    let t := (cutting .valid [lot7 .queued]).cutDecision 100
    t.trq.queue.map Record.birth = [100] ∧ t.trq.serial = 1 ∧
      t.lot.table = [{ lot7 .cutting with cut := 1, inFlight := 1 }] ∧ cutPitch (98 * 4096 + 1791) (98 * 4096 + 1792) = some 99 ∧
      cutPitch (98 * 4096 + 1792) (98 * 4096 + 1900) = none := by decide +kernel
/-- R123 and R124: the entry brought to 0 is late with its lot key, and a completion against two entries overflows. -/
theorem test_box_late_and_overflow :
    let l := { lot7 .cutting with inFlight := 2, delivered := 3 }
    let t := (boxed 1 2 (withLots [l] up)).retireLot { settled1 with slot := some ⟨1, 4, true⟩ }
    t.sup.log.map (fun f => (f.kind, f.effect, f.detail)) =
      [(.boxLate, .stop, .key ⟨9, 0⟩), (.boxOverflow, .safe, .key ⟨7, 0⟩)] ∧
      t.lot.boxes.map BoxEntry.deadline = [0, 1] ∧ t.lot.table.map Lot.completed = [1] := by decide +kernel
/-- R118 step 3 and R139: a CLOSED lot ends in the retirement of its last record. -/
theorem test_retirement_ends_a_closed_lot :
    ((withLots [{ lot7 .closed with inFlight := 1, stacked := 5 }] up).retireLot settled1).lot.table = [] ∧
      ((withLots [{ lot7 .closed with inFlight := 2, stacked := 4 }] up).retireLot settled1).lot.table.length = 1 := by
  decide +kernel
theorem witness_RetirementAndBoxTaking :
    let l := { lot7 .cutting with inFlight := 1, delivered := 3 }
    let s := withLots [l] up
    let box : BoxEntry := ⟨⟨⟨7, 0⟩, 1, 4, false, false, false⟩, 20⟩
    (s.lot.table = [] ++ l :: [] ∧ l.key = settled1.lot ∧ l.state ≠ .closed ∧ s.lot.boxes.length < 2 ∧
      l.diverted < 4294967295 ∧ l.undiverted < 4294967295) ∧
    1 < { lot7 .closed with inFlight := 2 }.inFlight ∧ { lot7 .closed with inFlight := 1 }.inFlight ≤ 1 ∧
    2 ≤ (boxed 1 2 s).lot.boxes.length ∧ (boxed 1 2 s).lot.boxes.filter (fun e => e.deadline == 1) ≠ [] ∧
    { settled1 with slot := some ⟨1, 4, true⟩ }.batchEnd = true ∧ { blank 1 with unmarkedEnd := true }.unmarkedEnd = true ∧
    ¬(settled1.batchEnd = true ∨ settled1.unmarkedEnd = true) ∧
    { s.lot with boxes := [box] }.boxes = box :: [] ∧ s.lot.boxes = [] ∧
    (let run := withRecords [blank 1, blank 2] (inLine .run up)
      let out := withRecords [blank 1] (inLine .runout (busy up))
      let position := ((blank 1).birth + up.settings.deliveryOffset + 1) * 4096
      up.running = false ∧ run.running = true ∧ run.trq.queue = blank 1 :: [blank 2] ∧ up.trq.queue = [] ∧
        ¬(position < position ∧ position ≤ position) ∧ (position - 1 < position ∧ position ≤ position) ∧
        [blank 2] ≠ [] ∧ run.sup.line = .run ∧ out.running = true ∧ out.trq.queue = blank 1 :: [] ∧ out.sup.line = .runout ∧
        out.rif.tx ≠ .idle ∧ out.rif.outbound.length ≤ 39) := by decide +kernel
/-- R64 and R149: the advance that reaches (b + s + 1) × 4,096 retires the record, and a run-out then completes. -/
theorem test_retire_position :
    let out := withLots [{ lot7 .cutting with inFlight := 2 }] (withRecords [{ settled1 with birth := 101 }] (inLine .runout (busy up)))
    let position := (101 + up.settings.deliveryOffset + 1) * 4096
    (out.trqAdvance (position - 1) position).sup.line = .idle ∧ (out.trqAdvance (position - 1) position).trq.queue = [] ∧
      (out.trqAdvance (position - 1) position).rif.outbound = [.drive 1 .stop] ∧
      (out.trqAdvance (position - 2) (position - 1)).trq.queue.length = 1 := by decide +kernel
theorem test_retirement_completes_a_batch :
    ((withLots [{ lot7 .cutting with inFlight := 1, delivered := 3 }] up).retireLot
      { settled1 with slot := some ⟨1, 4, true⟩ }).lot.boxes = [⟨⟨⟨7, 0⟩, 1, 4, false, false, false⟩, 40⟩] := by
  decide +kernel
theorem witness_LotEndMakesUpTheShortfall :
    let short := { lot7 .closed with stacked := 5 }
    let s := busy up
    let first := { lot7 .queued with key := ⟨7, 1⟩ }
    (s.rif.tx ≠ .idle ∧ s.rif.management.length + s.rif.reserved < 16 ∧ short.delivered = 0 ∧ short.contaminated = false ∧
      (withLots [short] s).lot.table = [] ++ short :: [] ∧ ∀ x ∈ ([] : List Lot) ++ [], x.key ≠ short.key) ∧
    { lot7 .closed with stacked := 6 }.target - { lot7 .closed with stacked := 6 }.stacked = 0 ∧
    0 < { short with delivered := 1 }.delivered ∧ { short with contaminated := true }.contaminated = true ∧
    (short.target - short.stacked ≠ 0 ∧ short.makeUp = true) ∧ { short with makeUp := false }.makeUp = false ∧
    8 ≤ (withLots (eightLots.take 7 ++ [short]) s).lot.table.length ∧
    (∃ x ∈ ([] : List Lot) ++ [first], x.key = ⟨short.key.id, min 15 (short.key.makeUp + 1)⟩) ∧
    ¬8 ≤ (withLots [short, first] s).lot.table.length ∧
    (¬∃ x ∈ ([] : List Lot) ++ [], x.key = ⟨short.key.id, min 15 (short.key.makeUp + 1)⟩) ∧
    ([first] : List Lot) ++ [] = [] ++ [first] ++ [] ∧ first.state = .queued := by decide +kernel
/-- 13.3: lot (7, 0) ends one short and makes up (7, 1), ahead of the QUEUED lots (R140). -/
theorem test_lot_end_makes_up :
    ((withLots [{ lot7 .closed with stacked := 5 }, { lot7 .cutting with key := ⟨8, 0⟩ }, { lot7 .queued with key := ⟨9, 0⟩ }]
      up).endLot ⟨7, 0⟩ 0).1.lot.table.map (fun l => (l.key, l.target)) = [(⟨8, 0⟩, 6), (⟨7, 1⟩, 1), (⟨9, 0⟩, 6)] := by
  decide +kernel
/-- R140: two lots that end in one purge make up in their order, behind the CUTTING lot and ahead of the QUEUED one. -/
theorem test_purge_orders_make_up :
    let s := inLine .safe (withLots [lot7 .closed, { lot7 .closed with key := ⟨8, 15⟩ }, { lot7 .cutting with key := ⟨9, 0⟩ },
      { lot7 .queued with key := ⟨10, 0⟩ }] up)
    (after (.lineClear 62 1) s).lot.table.map Lot.key = [⟨9, 0⟩, ⟨7, 1⟩, ⟨8, 15⟩, ⟨10, 0⟩] := by decide +kernel

/-! ### Witnesses: actuation and checks -/

theorem witness_EdgesAreIssuedHeldAndMerged :
    let s := gateMerging 1
    let off : ActiveOff := ⟨0, 104, 1900, 0, false⟩
    let within := fun (s : State) (a : ActiveOff) (target on : Nat) =>
      s.onFiring 5 target on ≤ s.offFiring 5 a + (s.channel 5).mergeGap
    (busy up).rif.outbound.length < 64 ∧ (busy up).rif.tx ≠ .idle ∧
    ((s.camChannel 5).schedule.head? = some ⟨1, 101, 104, some (2000, 1900)⟩ ∧ within s off 104 2000) ∧
    (up.camChannel 5).schedule.head? = none ∧ (gateReady.camChannel 5).activeOff = none ∧
    (s.camChannel 5).activeOff = some off ∧ within s off 104 2100 ∧ ¬within s off 104 2101 ∧
    ({ off with held := true }.held = true ∧ off.held = false) := by decide +kernel
/-- R81 and R82: the OFF of a channel is held for a head window within the merge gap, and the window then merges. -/
theorem test_held_and_merged :
    let s := gateMerging 1
    let off : ActiveOff := ⟨0, 104, 1900, 0, false⟩
    ((s.takeOff 5 off).camChannel 5).activeOff = some { off with held := true } ∧
      (s.fire 5 ⟨1, 101, 104, some (2000, 1900)⟩ 2000 1900).camChannel 5 = ⟨[], some ⟨1, 105, 1900, 0, false⟩, .none, 2⟩ := by
  decide +kernel
/-- Two programs for channel 2, PATCH with SKIP_REJECT, and one angle for the knife: what the creation schedules (R72). -/
def created : State := (line13 .valid).camCreate (blank 1)

theorem witness_WindowsAreScheduledAndTaken :
    let s := line13 .valid
    let r := blank 1
    let held := s.setCam 2 fun x => { x with schedule := [⟨1, 101, 103, none⟩] }
    (∃ x, { settled1 with slot := some ⟨1, 4, true⟩ }.slot = some x ∧ x.batchEnd = true) ∧
    (¬∃ x, (blank 1).slot = some x ∧ x.batchEnd = true) ∧
    (((s.channel 0).source = .cam ∧ (∃ v, ((format13.program v).window? 0).isSome = true)) ∧ (s.channel 1).source ≠ .cam) ∧
    ((s.channel 0).policy = .fireAlways ∧ (s.channel 2).policy = .skipReject ∧ (s.channel 2).function = .patch) ∧
    (∃ w ∈ (held.camChannel 2).schedule, w.serial = r.serial ∧ w.angles = none) ∧
    (gateReady.camChannel 5).schedule.head? = some ⟨1, 101, 104, some (2000, 1900)⟩ ∧
    ((104 * 4096 + 2000 : Int) - 0 - 256 ≤ gateReady.pos.held) ∧ ¬((104 * 4096 + 2001 : Int) - 0 - 256 ≤ gateReady.pos.held) ∧
    (held.camChannel 2).activeOff = none ∧ ((gateMerging 1).camChannel 5).activeOff = some ⟨0, 104, 1900, 0, false⟩ ∧
    (s.channel 0).function = .knife ∧ (s.channel 6).function = .finger ∧ (s.channel 5).function = .gate ∧
    (gateReady.trq.queue = [] ++ blank 1 :: [] ∧ (blank 1).serial = 1) ∧ (blank 1).reject = false ∧
    { blank 1 with poisoned := true, defects := { (blank 1).defects with splice := true } }.reject = true := by
  refine ⟨⟨_, rfl, rfl⟩, ?_, by decide +kernel⟩
  rintro ⟨x, h, -⟩
  cases h
/-- R72: the windows every program shares are SCHEDULED, the patch is HELD; R79: a reject's patch is suppressed. -/
theorem test_windows :
    let rejected := { blank 1 with defects := { (blank 1).defects with splice := true } }
    let t := (withRecords [rejected] (line13 .valid)).takeOn 2 ⟨1, 101, 103, some (1000, 1800)⟩ 1000 1800
    (created.camChannel 0).schedule = [⟨1, 101, 101, some (100, 400)⟩] ∧
      (created.camChannel 2).schedule = [⟨1, 101, 103, none⟩] ∧ (created.camChannel 1).schedule = [] ∧
      t.trq.queue.map Record.suppressed = [[2]] ∧ (t.camChannel 2).level = .none := by decide +kernel
/-- 5.3, One GUM Window: the active OFF and the frame of its ON edge (R76, R77, R80). -/
theorem test_issue_on :
    let s := at' 4119509 { (busy up) with store := { up.store with channels := updateAt up.store.channels 7 fun _ =>
      { Channel.reset with node := 10, function := .gum, offset := 5, delay := 6000, dwellMin := 9000, source := .cam } } }
    let t := { s with pos := { s.pos with s := 102500 } }.issueOn 7 ⟨1, 1000, 1005, some (3900, 300)⟩ 3900 300
    t.camChannel 7 = ⟨[], some ⟨1, 1006, 300, 4120688, false⟩, .on, 0⟩ ∧
      t.rif.outbound = [.output 10 0 true false 7 (4119765 % 65536) 1] := by decide +kernel

/-- A check entry of input 4 that is past its close. -/
def alternative (seen : Bool) : Alternative := ⟨1, 5000, 6000, .present, some 2, seen, true, false⟩

/-- The line of 13.2 with the checks record 1 opens. -/
def checking : State := (line13 .valid).chkCreate (blank 1)
/-- The same with what the check of input 4 has gathered. -/
def gathered (seen passed : Bool) : State := checking.setChk 4 fun x => { x with
  pending := x.pending.map fun p => { p with alternatives := p.alternatives.map fun a =>
    { a with seen := seen, passed := passed } } }
/-- Format 1 of 13.2 checks input 4 for variant 1 alone, at offset 2 (R100); the other variants drop the check, and a
passed one closes at its resolution (R101). -/
theorem test_checks_open_and_resolve :
    let one := fun (seen passed : Bool) => (⟨1, 423388, 424388, .present, some 2, seen, passed, false⟩ : Alternative)
    let pending := fun s : State => (s.chkInput 4).pending
    let read : Record := { blank 1 with variant := some 1 }
    pending checking = [⟨1, 101, 103, false, [one false false]⟩] ∧ pending (checking.chkResolve (blank 1)) = [] ∧
      pending ((gathered true false).chkResolve read) = [⟨1, 101, 103, true, [one true false]⟩] ∧
      pending ((gathered true true).chkResolve read) = [] ∧
      (((gathered true true).chkResolve read).chkInput 4).lastClosed = some (423388, 424388) ∧
      ((checking.chkResolve (blank 1)).chkInput 4).lastClosed = none := by decide +kernel
theorem witness_ChecksAreOpenedResolvedAndJudged :
    let s := withRecords [settled1, blank 2] (mapped .check 0)
    let passes := fun a : Alternative => (a.expect = .present ∧ a.seen = true) ∨ (a.expect = .absent ∧ a.seen = false)
    let skipped := fun (a : Alternative) (r : Record) => a.fallback = true ∨ r.poisoned = true ∨
      ∃ c ∈ a.paired, c ∈ r.suppressed
    ((format13.program 1).check? 4 = some ⟨4, 1500, 2500, .present, some 2⟩ ∧ ∀ v, (format13.program v).check? 5 = none) ∧
    ((checking.chkInput 5).pending = [] ∧ ((checking.chkInput 4).pending.map PendingCheck.serial = [(blank 1).serial]) ∧
      (checking.chkInput 4).pending.map PendingCheck.resolved = [false] ∧ (blank 1).variant = none ∧
      { blank 1 with variant := some 1 }.variant = some 1) ∧
    (s.trq.queue = [settled1] ++ blank 2 :: [] ∧ ∀ x ∈ [settled1] ++ [], x.serial ≠ (blank 2).serial) ∧
    { alternative true with fallback := true }.fallback = true ∧ { blank 2 with poisoned := true }.poisoned = true ∧
    ¬skipped (alternative true) (blank 2) ∧ passes (alternative true) ∧ ¬passes (alternative false) ∧
    (blank 2).final = none ∧ settled1.final ≠ none ∧ (s.chkInput 4).consecutive = 0 ∧ (s.input 4).limit = 3 ∧
    min 15 ((s.chkInput 4).consecutive + 1) ≠ (s.input 4).limit ∧ (s.input 5).limit = 0 ∧
    min 15 ({ (s.chkInput 4) with consecutive := 2 }.consecutive + 1) = (s.input 4).limit := by
  refine ⟨by decide +kernel, by decide +kernel, by decide, by decide, by decide, ?_, by decide⟩
  rintro (h | h | ⟨c, -, h⟩)
  · exact absurd h (by decide)
  · exact absurd h (by decide)
  · exact absurd h (by simp [blank, Record.born])
/-- 13.3, input 4: a check without its pulse is a defect, counted once; the third in a row raises the fault (R105, R106). -/
theorem test_closing_check :
    let s := withRecords [blank 2] (mapped .check 0)
    let t := s.closeCheck 4 2 (alternative false)
    let third := (s.setChk 4 fun x => { x with consecutive := 2 }).closeCheck 4 2 (alternative false)
    (t.chkInput 4).consecutive = 1 ∧ t.trq.queue.map (fun r => (r.defects.check, r.failed)) = [(true, [4])] ∧
      t.sup.counters.get (ctrDefectRuns 4) = 1 ∧ third.sup.log.map FaultRecord.kind = [.consecutiveDefect] ∧
      (third.chkInput 4).consecutive = 0 := by decide +kernel

/-! ### Witnesses: what every step keeps -/

/-- A line in RUN with a lot, a record in flight, a trim and a fault, and a command that waits. -/
def working : State :=
  { locked .locked (withRecords [blank 1] (cutting .valid [{ lot7 .cutting with cut := 1, inFlight := 1 }])) with
    pending := [.lineHalt 62 1], sup := { fullLog.sup with line := .run } }

theorem witness_EveryStepKeepsTheBounds : working.Bounded ∧ step working = .next (after (.lineHalt 62 1) { working with pending := [] }) := by
  refine ⟨?_, rfl⟩
  unfold State.Bounded; decide +kernel
theorem witness_EveryStepKeepsTheLogAndTheTrim :
    working.LogOrdered ∧ working.TrimHeld ∧ step working = .next (after (.lineHalt 62 1) { working with pending := [] }) := by
  refine ⟨⟨?_, by decide +kernel, by decide⟩, ⟨by decide, (by decide : -(256 : Int) ≤ 0 ∧ (0 : Int) ≤ 256)⟩, rfl⟩
  simp [working, fullLog, inLine, rising, List.range, List.range.loop]
theorem witness_EveryStepKeepsTheLotTable :
    working.LotsOrdered ∧ working.FlightsCounted ∧
      step working = .next (after (.lineHalt 62 1) { working with pending := [] }) := by
  refine ⟨?_, ?_, rfl⟩
  · unfold State.LotsOrdered; decide +kernel
  · unfold State.FlightsCounted; decide +kernel
theorem witness_EveryStepTakesItsEffects :
    working.Settled ∧ working.RunsKnown ∧ step working = .next (after (.lineHalt 62 1) { working with pending := [] }) :=
  ⟨rfl, fun _ => rfl, rfl⟩

end Sys2Proof.Tests
end

/-! ## Settled: the position unit, an ANGLE frame from the wire to POS -/

namespace Sys2Proof.Machine

/-- The copy POS takes of an ANGLE frame carries the count and the time the frame was sent with (R2, R178). -/
theorem State.angleCopy_halfBytes (src : Byte) (count time : Half) (s : State) :
    s.angleCopy src (halfBytes count ++ halfBytes time) = s.takeAngle src count.toNat time.toNat := by
  have hcount : payloadHalf (halfBytes count ++ halfBytes time) 0 = count.toNat := payloadHalf_first count _
  have htime : payloadHalf (halfBytes count ++ halfBytes time) 2 = time.toNat := payloadHalf_second _ _ time []
  rw [State.angleCopy, hcount, htime]

/-- A broadcast ANGLE frame of another node: its copy goes to POS before the frame is forwarded (R171 row 4). -/
theorem State.handleFrame_angle (src : Byte) (payload bytes : List Byte) (s : State) (hsrc : src ≠ s.rif.own)
    (hown : s.rif.own ≠ broadcast) :
    s.handleFrame broadcast src kindAngle payload bytes = (s.angleCopy src payload).forward bytes := by
  rw [State.handleFrame, if_neg hsrc, if_neg hown.symm, if_pos ⟨rfl, rfl⟩]

/-- The ANGLE command with a check that passes: POS takes count and time, then the frame is forwarded (R2, R171 row 4). -/
theorem exec_angle_passes (src : Byte) (count time : Half) (s : State) (hup : s.rif.linkUp = true)
    (hsrc : src ≠ s.rif.own) (hown : s.rif.own ≠ broadcast) :
    exec (.angle src count time (frameCheck (angleBody src count time))) s =
      .next ((s.heard.takeAngle src count.toNat time.toNat).forward
        (angleBody src count time ++ halfBytes (frameCheck (angleBody src count time)))) := by
  have hlen : (halfBytes count ++ halfBytes time).length ≤ 240 := (by decide : 4 ≤ 240)
  calc exec (.angle src count time (frameCheck (angleBody src count time))) s
      = .next (s.receive broadcast src kindAngle (halfBytes count ++ halfBytes time)
          (frameCheck (angleBody src count time))) := rfl
    _ = _ := by
      rw [angleBody, State.receive_passes _ _ _ _ s hup hlen, State.handleFrame_angle _ _ _ s.heard hsrc hown,
        State.angleCopy_halfBytes]

/-- A sample of the drive node is accepted (R2). -/
theorem State.takeAngle_driveNode (src : Byte) (count time : Nat) (s : State) (h : src.toNat = s.settings.driveNode) :
    s.takeAngle src count time = s.takeSample count time := if_pos h

/-- A sample that finds the position UNKNOWN establishes it and does nothing else (R3). -/
theorem State.takeSample_unknown (count time : Nat) (s : State) (h : s.pos.state = .unknown) :
    s.takeSample count time = s.establish count time := by
  rw [State.takeSample, h]

/-- Settles O16: the frame passes its check, its copy reaches POS as the drive node's sample, and the sample of an
UNKNOWN position is `State.establish`. -/
theorem firstSampleEstablishesThePosition : Obligations.FirstSampleEstablishesThePosition := by
  intro src count time s hup hsrc hown hdrive hunknown
  have haccepted : s.heard.takeAngle src count.toNat time.toNat = s.heard.establish count.toNat time.toNat := by
    rw [State.takeAngle_driveNode _ _ _ s.heard hdrive, State.takeSample_unknown _ _ s.heard hunknown]
  show exec _ s = _
  rw [exec_angle_passes src count time s hup hsrc hown, haccepted]
  rfl

end Sys2Proof.Machine

/-! ## Settled: the format store, requests that name an unknown format and formats emptied -/

namespace Sys2Proof.Machine

/-! ### Format numbers (R26) -/

/-- No format has a number outside 1 to 16. -/
theorem formatId?_unknown {id : Byte} (h : id.toNat = 0 ∨ 16 < id.toNat) : formatId? id = none := by
  unfold formatId? index?
  rcases h with hzero | hlarge
  · exact if_pos hzero
  · rw [if_neg (by omega), dif_neg (by omega)]

/-- The byte that numbers a format from 1 names that format. -/
@[simp] theorem formatId?_number (f : Fin 16) : formatId? (BitVec.ofNat 8 (f.val + 1)) = some f := by
  have hnumber : (BitVec.ofNat 8 (f.val + 1)).toNat = f.val + 1 := by
    rw [BitVec.toNat_ofNat]; exact Nat.mod_eq_of_lt (by omega)
  unfold formatId? index?
  rw [hnumber, if_neg (Nat.succ_ne_zero _), dif_pos (by omega)]
  rfl

/-- A request whose owner changes nothing is answered in the state that took it. -/
theorem takeRequest_unchanged (src code tag : Byte) (parts : Nat) (owner : State → State × Reply) (s : State) (r : Reply)
    (h : s.Takes src parts) (ho : owner (s.serving parts) = (s.serving parts, r)) :
    takeRequest src code tag parts owner s = s.answered src code tag r :=
  takeRequest_answered src code tag parts owner s s r h ho rfl

/-! ### The owners of the format requests, given a number that is no format's (R26) -/

theorem formatOpenOwner_unknown {id : Byte} (h : formatId? id = none) (s : State) :
    formatOpenOwner id s = (s, .plain .unknownId) := by simp only [formatOpenOwner, h]

theorem formatLoadOwner_unknown {id : Byte} (h : formatId? id = none) (items : List LoadItem) (s : State) :
    formatLoadOwner id items s = (s, .plain .unknownId) := by simp only [formatLoadOwner, h]

theorem formatCommitOwner_unknown {id : Byte} (h : formatId? id = none) (sum : Half) (s : State) :
    formatCommitOwner id sum s = (s, .plain .unknownId) := by simp only [formatCommitOwner, h]

theorem formatEraseOwner_unknown {id : Byte} (h : formatId? id = none) (s : State) :
    formatEraseOwner id s = (s, .plain .unknownId) := by simp only [formatEraseOwner, h]

theorem formatReadOwner_unknown {id : Byte} (h : formatId? id = none) (page : Byte) (s : State) :
    formatReadOwner id page s = (s, .plain .unknownId) := by simp only [formatReadOwner, h]

/-- Settles O27: the number is looked up before the owner of each request makes any test, so the line state and the rest
of the state play no part. -/
theorem formatRequestsRefuseUnknownIds : Obligations.FormatRequestsRefuseUnknownIds := by
  intro src tag id s htakes hid
  have hnone : formatId? id = none := formatId?_unknown hid
  refine ⟨?_, fun items => ?_, fun sum => ?_, ?_, fun page => ?_⟩ <;> refine congrArg Host.Outcome.next ?_
  · exact takeRequest_unchanged src 5 tag 1 _ s _ htakes (formatOpenOwner_unknown hnone _)
  · exact takeRequest_unchanged src 6 tag 1 _ s _ htakes (formatLoadOwner_unknown hnone items _)
  · exact takeRequest_unchanged src 7 tag 1 _ s _ htakes (formatCommitOwner_unknown hnone sum _)
  · exact takeRequest_unchanged src 8 tag 1 _ s _ htakes (formatEraseOwner_unknown hnone _)
  · exact takeRequest_unchanged src 9 tag 1 _ s _ htakes (formatReadOwner_unknown hnone page _)

/-! ### Use of a format and the entry pool (R16, R25) -/

theorem State.inUse_iff (f : Fin 16) (s : State) :
    s.inUse f = true ↔ (∃ l ∈ s.lot.table, l.format = f) ∨ ∃ r ∈ s.trq.queue, r.format = f := by
  simp only [State.inUse, Bool.or_eq_true, List.any_eq_true, beq_iff_eq]

/-- The total of a weight over a table, after one place changed: the old weight of the place is exchanged for its new one. -/
theorem updateAt_sum {α : Type} {n : Nat} (weight : α → Nat) (v : Vector α n) (i : Fin n) (f : α → α) :
    ((updateAt v i f).toList.map weight).sum + weight (v.get i) =
      (v.toList.map weight).sum + weight (f (v.get i)) := by
  have hi : i.val < v.toList.length := by simp
  have hget : v.toList[i.val] = v.get i := rfl
  have hold : v.toList = v.toList.take i ++ v.get i :: v.toList.drop (i + 1) := by
    rw [← hget, List.cons_getElem_drop_succ, List.take_append_drop]
  have hnew : (updateAt v i f).toList = v.toList.take i ++ f (v.get i) :: v.toList.drop (i + 1) := by
    rw [updateAt, Vector.toList_set, List.set_eq_take_append_cons_drop, if_pos hi]
  rw [hnew]
  conv_rhs => rw [hold]
  simp only [List.map_append, List.map_cons, List.sum_append, List.sum_cons]
  omega

/-- What is free of a pool that is not overdrawn grows by the weight of a place that comes to weigh nothing. -/
theorem updateAt_returns {α : Type} {n : Nat} (weight : α → Nat) (pool : Nat) (v : Vector α n) (i : Fin n) (f : α → α)
    (hempty : weight (f (v.get i)) = 0) (hpool : (v.toList.map weight).sum ≤ pool) :
    pool - ((updateAt v i f).toList.map weight).sum = pool - (v.toList.map weight).sum + weight (v.get i) := by
  have hsum := updateAt_sum weight v i f
  omega

/-! ### FORMAT_OPEN and FORMAT_ERASE (R27, R29) -/

/-- A state with one format emptied, as FORMAT_OPEN and FORMAT_ERASE leave it. -/
def State.emptyFormat (f : Fin 16) (st : FormatState) (s : State) : State := s.setFormat f fun _ => Format.blank st

theorem State.emptyFormat_frame (f : Fin 16) (st : FormatState) (s : State) :
    s.emptyFormat f st = { s with store := { s.store with formats := (s.emptyFormat f st).store.formats } } := rfl

theorem State.emptyFormat_same (f : Fin 16) (st : FormatState) (s : State) :
    (s.emptyFormat f st).format f = Format.blank st :=
  (State.setFormat_format f f _ s).trans (if_pos rfl)

theorem State.emptyFormat_other {f g : Fin 16} (h : g ≠ f) (st : FormatState) (s : State) :
    (s.emptyFormat f st).format g = s.format g :=
  (State.setFormat_format f g _ s).trans (if_neg h)

theorem State.emptyFormat_freeWindows (f : Fin 16) (st : FormatState) (s : State)
    (hpool : (s.store.formats.toList.map Format.windowCount).sum ≤ 512) :
    (s.emptyFormat f st).store.freeWindows = s.store.freeWindows + (s.format f).windowCount :=
  updateAt_returns Format.windowCount 512 s.store.formats f (fun _ => Format.blank st) rfl hpool

theorem State.emptyFormat_freeChecks (f : Fin 16) (st : FormatState) (s : State)
    (hpool : (s.store.formats.toList.map Format.checkCount).sum ≤ 256) :
    (s.emptyFormat f st).store.freeChecks = s.store.freeChecks + (s.format f).checkCount :=
  updateAt_returns Format.checkCount 256 s.store.formats f (fun _ => Format.blank st) rfl hpool

/-- What the two requests do once their number has named a format: refuse it in use, else empty it. -/
def emptyFormatOwner (f : Fin 16) (st : FormatState) (s : State) : State × Reply :=
  if s.inUse f then (s, .plain .inUse) else (s.emptyFormat f st, .plain .accepted)

theorem formatOpenOwner_number (f : Fin 16) :
    formatOpenOwner (BitVec.ofNat 8 (f.val + 1)) = emptyFormatOwner f .open := by
  funext s; simp only [formatOpenOwner, formatId?_number]; rfl

theorem formatEraseOwner_number (f : Fin 16) :
    formatEraseOwner (BitVec.ofNat 8 (f.val + 1)) = emptyFormatOwner f .empty := by
  funext s; simp only [formatEraseOwner, formatId?_number]; rfl

theorem exec_formatOpen_number (src tag : Byte) (f : Fin 16) (s : State) :
    exec (.formatOpen src tag (BitVec.ofNat 8 (f.val + 1))) s =
      .next (takeRequest src 5 tag 1 (emptyFormatOwner f .open) s) := by
  rw [← formatOpenOwner_number]; rfl

theorem exec_formatErase_number (src tag : Byte) (f : Fin 16) (s : State) :
    exec (.formatErase src tag (BitVec.ofNat 8 (f.val + 1))) s =
      .next (takeRequest src 8 tag 1 (emptyFormatOwner f .empty) s) := by
  rw [← formatEraseOwner_number]; rfl

theorem takeRequest_emptyFormat_inUse (src code tag : Byte) {f : Fin 16} (st : FormatState) {s : State}
    (h : s.Takes src 1) (huse : s.inUse f = true) :
    takeRequest src code tag 1 (emptyFormatOwner f st) s = s.answered src code tag (.plain .inUse) :=
  takeRequest_unchanged src code tag 1 _ s _ h (if_pos huse)

theorem takeRequest_emptyFormat_free (src code tag : Byte) {f : Fin 16} (st : FormatState) {s : State}
    (h : s.Takes src 1) (huse : s.inUse f = false) :
    takeRequest src code tag 1 (emptyFormatOwner f st) s =
      (s.emptyFormat f st).answered src code tag (.plain .accepted) :=
  takeRequest_answered src code tag 1 _ s _ _ h (if_neg (Bool.eq_false_iff.mp huse)) rfl

/-- Settles O28: both requests run `emptyFormatOwner`, and emptying a format returns its entries to the
pool. -/
theorem formatOpenAndEraseEmptyAFormat : Obligations.FormatOpenAndEraseEmptyAFormat := by
  refine ⟨State.inUse_iff, ?_⟩
  intro src tag f s htakes id emptied becomes
  have hbecomes (st : FormatState) : becomes (s.emptyFormat f st) st :=
    ⟨State.emptyFormat_frame f st s, State.emptyFormat_same f st s, fun g hg => State.emptyFormat_other hg st s,
      State.emptyFormat_freeWindows f st s, State.emptyFormat_freeChecks f st s⟩
  rw [exec_formatOpen_number, exec_formatErase_number]
  constructor
  · intro huse
    exact ⟨congrArg _ (takeRequest_emptyFormat_inUse src 5 tag .open htakes huse),
      congrArg _ (takeRequest_emptyFormat_inUse src 8 tag .empty htakes huse)⟩
  · intro hfree
    exact ⟨⟨_, congrArg _ (takeRequest_emptyFormat_free src 5 tag .open htakes hfree), hbecomes .open⟩,
      ⟨_, congrArg _ (takeRequest_emptyFormat_free src 8 tag .empty htakes hfree), hbecomes .empty⟩⟩

end Sys2Proof.Machine

/-! ## Settled: the fault log, LOG_CLEAR by its table -/

namespace Sys2Proof.Machine

/-- The log as LOG_CLEAR leaves it: no record and no overflow, the last fault sequence as it was (R162). -/
def State.clearLog (s : State) : State := { s with sup := { s.sup with log := [], overflow := 0 } }

/-! ### The three rows of LOG_CLEAR (R162) -/

theorem logClearOwner_nothing (sequence : Quad) {s : State} (h : s.sup.log = [] ∧ s.sup.overflow = 0) :
    logClearOwner sequence s = (s, .one .accepted (bigEndian 4 s.sup.lastSequence)) :=
  if_pos ⟨List.isEmpty_iff.mpr h.1, h.2⟩

/-- With something to clear, the sequence decides. -/
theorem logClearOwner_something (sequence : Quad) {s : State} (h : ¬(s.sup.log = [] ∧ s.sup.overflow = 0)) :
    logClearOwner sequence s =
      if sequence.toNat = s.sup.lastSequence then (s.clearLog, .one .accepted (bigEndian 4 s.sup.lastSequence))
      else (s, .one .stale (bigEndian 4 s.sup.lastSequence)) :=
  if_neg fun hguard => h ⟨List.isEmpty_iff.mp hguard.1, hguard.2⟩

theorem logClearOwner_last {sequence : Quad} {s : State} (h : ¬(s.sup.log = [] ∧ s.sup.overflow = 0))
    (hlast : sequence.toNat = s.sup.lastSequence) :
    logClearOwner sequence s = (s.clearLog, .one .accepted (bigEndian 4 s.sup.lastSequence)) := by
  rw [logClearOwner_something sequence h, if_pos hlast]

theorem logClearOwner_stale {sequence : Quad} {s : State} (h : ¬(s.sup.log = [] ∧ s.sup.overflow = 0))
    (hstale : sequence.toNat ≠ s.sup.lastSequence) :
    logClearOwner sequence s = (s, .one .stale (bigEndian 4 s.sup.lastSequence)) := by
  rw [logClearOwner_something sequence h, if_neg hstale]

/-- Settles O36: each row of R162 is the owner's own case. The owner acts in `s.serving 1`, whose log is that of `s`,
and no row tests the line state. -/
theorem logClearByTheTable : Obligations.LogClearByTheTable := by
  intro src tag sequence s htakes run results nothing
  have hrun : run = .next (takeRequest src 23 tag 1 (logClearOwner sequence) s) := rfl
  rw [hrun]
  refine ⟨fun hnothing => ?_, fun hsomething hlast => ?_, fun hsomething hstale => ?_⟩ <;>
    refine congrArg Host.Outcome.next ?_
  · exact takeRequest_unchanged src 23 tag 1 _ s _ htakes
      (logClearOwner_nothing (s := s.serving 1) sequence hnothing)
  · exact takeRequest_answered src 23 tag 1 _ s s.clearLog _ htakes
      (logClearOwner_last (s := s.serving 1) hsomething hlast) rfl
  · exact takeRequest_unchanged src 23 tag 1 _ s _ htakes
      (logClearOwner_stale (s := s.serving 1) hsomething hstale)

end Sys2Proof.Machine

/-! ## What the blocks can do, said once: works of the blocks and of the lot unit -/

namespace Sys2Proof.Machine

/-- The order in which a block's work can move the line: RUN, RUNOUT, IDLE, SAFE (R145). -/
def LineState.stage : LineState → Nat
  | .run => 0 | .runout => 1 | .idle => 2 | .safe => 3

/-- What of a lot the order of the table and the count of its records rest on. -/
def Lot.standing (l : Lot) : LotKey × LotState × Nat := (l.key, l.state, l.inFlight)

/-- One change that a block's work can make. The lot table keeps its keys, states and in-flight counts, the tracking queue
the lots of its records, and the trim its bound. -/
inductive State.Work : State → State → Prop
  | count (c : Fin 38) (s : State) : Work s (s.bump c)
  | notice (n : Notice) (s : State) : Work s (s.notice n)
  | raise (k : FaultKind) (e : Effect) (p : Nat) (d : Detail) (s : State) : Work s (s.raiseAt k e p d)
  | effects (l : List Deferred) (s : State) : Work s { s with sup := { s.sup with deferred := l } }
  | place (f : OutFrame) (s : State) : Work s (s.placeOutbound f)
  | choose (s : State) : Work s s.choose.2
  | cam (v : Vector CamChannel 24) (s : State) : Work s { s with cam := v }
  | chk (v : Vector ChkInput 16) (s : State) : Work s { s with chk := v }
  | records (q : List Record) (s : State) (h : q.map Record.lot = s.trq.queue.map Record.lot) :
      Work s { s with trq := { s.trq with queue := q } }
  | lots (l : List Lot) (s : State) (hlength : l.length = s.lot.table.length)
      (h : (s.lot.table.map Lot.key).Nodup → l.map Lot.standing = s.lot.table.map Lot.standing) :
      Work s { s with lot := { s.lot with table := l } }
  | boxes (b : List BoxEntry) (s : State) (h : s.lot.boxes.length ≤ 2 → b.length ≤ 2) :
      Work s { s with lot := { s.lot with boxes := b } }
  | reg (r : Reg) (s : State) (htrim : r.trim = s.reg.trim) (hforce : r.inForce = s.reg.inForce)
      (hclass : r.trimClass = s.reg.trimClass) : Work s { s with reg := r }
  | trim (f : RegSettings) (t : Int) (s : State) (hforce : s.reg.inForce = some f) (hlow : -(f.trimMax : Int) ≤ t)
      (hhigh : t ≤ f.trimMax) : Work s { s with reg := { s.reg with trim := t } }
  | formats (v : Vector Format 16) (s : State) : Work s { s with store := { s.store with formats := v } }
  | line (l : LineState) (r : StopReason) (s : State) (h : s.sup.line.stage ≤ l.stage) : Work s (s.setLine l r)
  | empty (s : State) : Work s s.emptyOutbound

/-- One change that a block's work or the lot unit's can make: the second adds and removes lots and records. -/
inductive State.Act : State → State → Prop
  | work {s t : State} (h : State.Work s t) : Act s t
  | lots (l : LotUnit) (q : Trq) (s : State) (htable : s.lot.table.length ≤ 8 → l.table.length ≤ 8)
      (hboxes : s.lot.boxes.length ≤ 2 → l.boxes.length ≤ 2) : Act s { s with lot := l, trq := q }

/-- What the work of the blocks can do, change by change. -/
abbrev State.Works : State → State → Prop := Relation.ReflTransGen State.Work

/-- What the work of the blocks and of the lot unit can do, change by change. -/
abbrev State.Acts : State → State → Prop := Relation.ReflTransGen State.Act

protected theorem State.Works.trans {s t u : State} (h : s.Works t) (h' : t.Works u) : s.Works u :=
  Relation.ReflTransGen.trans h h'

protected theorem State.Acts.trans {s t u : State} (h : s.Acts t) (h' : t.Acts u) : s.Acts u :=
  Relation.ReflTransGen.trans h h'

theorem State.Works.acts {s t : State} (h : s.Works t) : s.Acts t := Relation.ReflTransGen.mono (fun _ _ => .work) _ _ h

theorem State.Act.acts {s t : State} (h : s.Act t) : s.Acts t := .single h

/-- A relation that is kept along changes holds between their ends. -/
theorem State.Acts.keeps {P : State → Prop} (h : ∀ s t, s.Act t → P s → P t) {s t : State} (hst : s.Acts t) (hs : P s) :
    P t := by
  induction hst with
  | refl => exact hs
  | tail _ hc ih => exact h _ _ hc ih

theorem State.Works.keeps {P : State → Prop} (h : ∀ s t, s.Work t → P s → P t) {s t : State} (hst : s.Works t)
    (hs : P s) : P t := by
  induction hst with
  | refl => exact hs
  | tail _ hc ih => exact h _ _ hc ih

/-- Works in a row are works. -/
theorem State.foldl_works {α : Type} {f : State → α → State} (h : ∀ (s : State) a, s.Works (f s a)) :
    ∀ (l : List α) (s : State), s.Works (l.foldl f s)
  | [], _ => .refl
  | a :: l, s => (h s a).trans (State.foldl_works h l (f s a))

theorem State.ite_works {p : Prop} [Decidable p] {s t u : State} (ht : s.Works t) (hu : s.Works u) :
    s.Works (if p then t else u) := by
  split
  · exact ht
  · exact hu

/-! ### Shared operations -/

theorem State.bump_works (c : Fin 38) (s : State) : s.Works (s.bump c) := .single (.count c s)

theorem State.bumpIf_works (p : Bool) (c : Fin 38) (s : State) : s.Works (s.bumpIf p c) := by
  cases p
  · exact .refl
  · exact s.bump_works c

theorem State.notice_works (n : Notice) (s : State) : s.Works (s.notice n) := .single (.notice n s)

theorem State.raise_works (k : FaultKind) (e : Effect) (d : Detail) (s : State) : s.Works (s.raise k e d) :=
  .single (.raise k e s.pitch d s)

theorem State.defer_works (d : Deferred) (s : State) : s.Works (s.defer d) := .single (.effects _ s)

theorem State.effects_works (l : List Deferred) (s : State) : s.Works { s with sup := { s.sup with deferred := l } } :=
  .single (.effects l s)

theorem State.placeOutbound_works (f : OutFrame) (s : State) : s.Works (s.placeOutbound f) := .single (.place f s)

theorem State.choose_works (s : State) : s.Works s.choose.2 := .single (.choose s)

theorem State.setCam_works (c : Fin 24) (f : CamChannel → CamChannel) (s : State) : s.Works (s.setCam c f) :=
  .single (.cam _ s)

theorem State.setChk_works (i : Fin 16) (f : ChkInput → ChkInput) (s : State) : s.Works (s.setChk i f) :=
  .single (.chk _ s)

theorem State.setFormat_works (i : Fin 16) (f : Format → Format) (s : State) : s.Works (s.setFormat i f) :=
  .single (.formats _ s)

theorem State.eitherOrder_works {f g : State → State} (hf : ∀ s : State, s.Works (f s))
    (hg : ∀ s : State, s.Works (g s)) (s : State) :
    s.Works (eitherOrder f g s) := by
  show s.Works (if _ then g (f s.choose.2) else f (g s.choose.2))
  split
  · exact s.choose_works.trans ((hf _).trans (hg _))
  · exact s.choose_works.trans ((hg _).trans (hf _))

/-! ### Records and lots -/

theorem State.writeRecord_works (f : Record → Record) (serial : Nat) (s : State)
    (h : ∀ r, (f r).lot = r.lot := by intros; rfl) : s.Works (s.writeRecord serial f) := by
  refine .single (.records _ s ?_)
  rw [List.map_map]
  refine List.map_congr_left fun r _ => ?_
  show Record.lot (if r.serial = serial then f r else r) = r.lot
  split
  · exact h r
  · rfl

theorem State.writeLot_works (f : Lot → Lot) (k : LotKey) (s : State)
    (h : ∀ l, (f l).standing = l.standing := by intros; rfl) : s.Works (s.writeLot k f) := by
  refine .single (.lots _ s (List.length_map _) fun _ => ?_)
  rw [List.map_map]
  refine List.map_congr_left fun l _ => ?_
  show Lot.standing (if l.key = k then f l else l) = l.standing
  split
  · exact h l
  · rfl

/-- In a table of distinct keys the lot of a key is the one that is found. -/
theorem State.findLot_unique {k : LotKey} {l : Lot} {s : State} (hkeys : (s.lot.table.map Lot.key).Nodup)
    (hl : s.findLot k = some l) {x : Lot} (hx : x ∈ s.lot.table) (hk : x.key = k) : x = l := by
  have hmem : l ∈ s.lot.table := List.mem_of_find?_eq_some hl
  have hkey : l.key = k := by simpa using List.find?_some hl
  exact List.inj_on_of_nodup_map hkeys hx hmem (hk.trans hkey.symm)

/-- The found lot exchanged for one of its standing. -/
theorem State.writeLot_found_works {k : LotKey} {l new : Lot} {s : State} (hl : s.findLot k = some l)
    (h : new.standing = l.standing) : s.Works (s.writeLot k fun _ => new) := by
  refine .single (.lots _ s (List.length_map _) fun hkeys => ?_)
  rw [List.map_map]
  refine List.map_congr_left fun x hx => ?_
  show Lot.standing (if x.key = k then new else x) = x.standing
  split
  · next hk => rw [h, State.findLot_unique hkeys hl hx hk]
  · rfl

theorem State.writeDefect_works (more : Record → Record) (serial : Nat) (reason : Reason) (s : State)
    (h : ∀ r, (more r).lot = r.lot := by intros; rfl) : s.Works (s.writeDefect serial reason more) := by
  unfold State.writeDefect
  split
  · exact s.bump_works _
  · split
    · exact s.bump_works _
    · refine .trans ?_ (State.bumpIf_works _ _ _)
      exact State.writeRecord_works _ serial s fun r => h _

theorem State.addDefect_works (serial : Nat) (reason : Reason) (s : State) : s.Works (s.addDefect serial reason) :=
  State.writeDefect_works id serial reason s

theorem State.writeSuppressed_works (serial : Nat) (c : Fin 24) (s : State) : s.Works (s.writeSuppressed serial c) :=
  State.writeRecord_works _ serial s fun r => by split <;> rfl

/-! ### Final points, batches and boxes -/

theorem goodFinal_standing (l : Lot) (last : Bool) : (goodFinal l last).2.standing = l.standing := rfl

theorem State.settleGood_works (r : Record) (s : State) : s.Works (s.settleGood r) := by
  unfold State.settleGood
  split
  · exact State.writeRecord_works _ _ _
  · next l hl =>
    refine .trans ?_ (State.writeLot_found_works (s := s.writeRecord r.serial _) hl (goodFinal_standing l _))
    exact State.writeRecord_works _ _ s

theorem State.settleDiverted_works (r : Record) (s : State) : s.Works (s.settleDiverted r) := by
  unfold State.settleDiverted
  dsimp only
  split
  · refine .trans ?_ (State.writeLot_works _ _ _)
    exact State.writeRecord_works _ _ s
  · exact State.writeRecord_works _ _ s

theorem State.settleUndiverted_works (r : Record) (s : State) : s.Works (s.settleUndiverted r) := by
  unfold State.settleUndiverted
  refine .trans ?_ (State.raise_works _ _ _ _)
  split
  · refine .trans (.trans ?_ (State.bumpIf_works _ _ _)) (State.writeLot_works _ _ _)
    exact State.writeRecord_works _ _ s
  · refine .trans ?_ (State.bumpIf_works _ _ _)
    exact State.writeRecord_works _ _ s

theorem State.completeBatch_works (k : LotKey) (unmarkedEnd : Bool) (s : State) :
    s.Works (s.completeBatch k unmarkedEnd) := by
  unfold State.completeBatch
  split
  · exact .refl
  · dsimp only
    refine (State.writeLot_works (fun x => { x with completed := x.completed + 1, delivered := 0, contaminated := false })
      k s).trans ?_
    split
    · next hroom =>
      refine .trans (.single (.boxes _ _ fun _ => ?_)) (State.notice_works _ _)
      rw [List.length_append]
      exact hroom
    · exact (State.raise_works _ _ _ _).trans (State.notice_works _ _)

theorem State.raiseLate_works (s : State) (e : BoxEntry) : s.Works (s.raiseLate e) := State.raise_works _ _ _ s

theorem State.raiseAllLate_works (late : List BoxEntry) (s : State) : s.Works (State.raiseAllLate late s) := by
  match late with
  | [] => exact .refl
  | [e] => exact s.raiseLate_works e
  | e :: e' :: rest => exact s.choose_works.trans (State.foldl_works State.raiseLate_works _ _)

theorem State.moveDeadlines_works (s : State) : s.Works s.moveDeadlines := by
  refine .trans (.single (.boxes _ s fun h => ?_)) (State.raiseAllLate_works _ _)
  rw [List.length_map]
  exact h

theorem State.boxTaken_works (s : State) : s.Works s.boxTaken := by
  unfold State.boxTaken
  split
  · exact s.bump_works _
  · next h => exact .single (.boxes _ s fun hle => by rw [h, List.length_cons] at hle; omega)

/-! ### The cam engine -/

theorem State.dropHead_works (c : Fin 24) (s : State) : s.Works (s.dropHead c) := s.setCam_works c _

theorem State.countEdge_works (c : Fin 24) (position : Int) (s : State) : s.Works (s.countEdge c position) :=
  (s.bumpIf_works _ _).trans (State.bumpIf_works _ _ _)

theorem State.issueOn_works (c : Fin 24) (w : Window) (on off : Nat) (s : State) : s.Works (s.issueOn c w on off) :=
  (s.countEdge_works c _).trans ((State.placeOutbound_works _ _).trans (State.setCam_works _ _ _))

theorem State.issueOff_works (c : Fin 24) (a : ActiveOff) (s : State) : s.Works (s.issueOff c a) :=
  (s.bumpIf_works _ _).trans
    ((State.countEdge_works c _ _).trans ((State.placeOutbound_works _ _).trans (State.setCam_works _ _ _)))

theorem State.fire_works (c : Fin 24) (w : Window) (on off : Nat) (s : State) : s.Works (s.fire c w on off) := by
  unfold State.fire
  split
  · exact s.issueOn_works c w on off
  · split
    · exact s.setCam_works c _
    · exact (s.issueOff_works c _).trans (State.issueOn_works c w on off _)

theorem State.noFire_works (c : Fin 24) (s : State) : s.Works (s.noFire c) := by
  unfold State.noFire
  dsimp only
  refine (s.dropHead_works c).trans ?_
  split
  · split
    · exact State.issueOff_works c _ _
    · exact .refl
  · exact .refl

theorem State.gateDue_works (c : Fin 24) (w : Window) (on off : Nat) (s : State) : s.Works (s.gateDue c w on off) := by
  unfold State.gateDue
  split
  · exact s.noFire_works c
  · next r _ =>
    split
    · exact State.eitherOrder_works (State.noFire_works c) (State.settleGood_works r) s
    · split
      · exact State.eitherOrder_works (State.fire_works c w on off) (State.settleDiverted_works r) s
      · split
        · exact State.eitherOrder_works (fun s => (s.dropHead_works c).trans (State.issueOff_works c _ _))
            (State.settleUndiverted_works r) s
        · exact State.eitherOrder_works (State.fire_works c w on off) (State.settleDiverted_works r) s

theorem State.takeOn_works (c : Fin 24) (w : Window) (on off : Nat) (s : State) : s.Works (s.takeOn c w on off) := by
  unfold State.takeOn
  split
  case h_1 => exact s.gateDue_works c w on off
  case h_2 =>
    split
    · exact s.fire_works c w on off
    · exact s.noFire_works c
  case h_3 | h_4 => exact s.fire_works c w on off
  case h_5 | h_6 | h_7 =>
    split
    · exact (s.writeSuppressed_works _ c).trans (State.noFire_works c _)
    · exact s.fire_works c w on off

theorem State.takeOff_works (c : Fin 24) (a : ActiveOff) (s : State) : s.Works (s.takeOff c a) := by
  unfold State.takeOff
  exact State.ite_works (s.setCam_works c _) (s.issueOff_works c a)

theorem State.offStep_works {c : Fin 24} {s t : State} (h : s.offStep c = some t) : s.Works t := by
  unfold State.offStep at h
  split at h
  · split at h
    · rw [← Option.some.inj h]
      exact s.takeOff_works c _
    · contradiction
  · contradiction

theorem State.camStep_works {c : Fin 24} {s t : State} (h : s.camStep c = some t) : s.Works t := by
  unfold State.camStep at h
  split at h
  · split at h
    · split at h
      · rw [← Option.some.inj h]
        exact s.takeOn_works c _ _ _
      · exact State.offStep_works h
    · exact State.offStep_works h
  · exact State.offStep_works h

theorem camLoop_works (c : Fin 24) : ∀ (n : Nat) (s : State), s.Works (camLoop c n s)
  | 0, _ => .refl
  | n + 1, s => by
    unfold camLoop
    split
    · next h => exact (State.camStep_works h).trans (camLoop_works c n _)
    · exact .refl

theorem State.testChannel_works (s : State) (c : Fin 24) : s.Works (s.testChannel c) := camLoop_works c _ s

theorem State.camAdvance_works (s : State) : s.Works s.camAdvance := State.foldl_works State.testChannel_works _ s

theorem State.camCreate_works (r : Record) (s : State) : s.Works (s.camCreate r) := by
  refine .trans (State.foldl_works (fun t c => ?_) _ s) (State.foldl_works State.testChannel_works _ _)
  split
  · exact t.setCam_works c _
  · exact .refl

theorem State.camResolve_works (r : Record) (s : State) : s.Works (s.camResolve r) :=
  .trans (State.foldl_works (fun t c => t.setCam_works c _) _ s) (State.foldl_works State.testChannel_works _ _)

theorem State.safeChannel_works (s : State) (c : Fin 24) : s.Works (s.safeChannel c) := by
  unfold State.safeChannel
  split
  · exact .refl
  · split
    · exact (s.placeOutbound_works _).trans (State.setCam_works c _ _)
    · exact (s.placeOutbound_works _).trans (State.setCam_works c _ _)
    · exact .refl

theorem State.camClear_works (s : State) : s.Works s.camClear := .single (.cam _ s)

theorem State.camSafe_works (s : State) : s.Works s.camSafe :=
  s.camClear_works.trans (State.foldl_works State.safeChannel_works _ _)

theorem State.camRunoutEnd_works (s : State) : s.Works s.camRunoutEnd := by
  refine State.foldl_works (fun t c => ?_) _ s
  refine .trans ?_ (State.setCam_works c _ _)
  split
  · exact t.issueOff_works c _
  · exact .refl

/-! ### The registration unit -/

/-- A change of REG beside the trim and the settings in force. -/
theorem State.setReg_works (r : Reg) (s : State) (htrim : r.trim = s.reg.trim := by rfl)
    (hforce : r.inForce = s.reg.inForce := by rfl) (hclass : r.trimClass = s.reg.trimClass := by rfl) :
    s.Works { s with reg := r } := .single (.reg r s htrim hforce hclass)

theorem State.regCreate_works (r : Record) (s : State) : s.Works (s.regCreate r) := by
  unfold State.regCreate
  dsimp only
  refine .trans ?_ (State.setReg_works _ _)
  split
  · refine .trans ?_ (State.setReg_works _ _)
    exact (State.writeRecord_works _ _ s).trans (State.addDefect_works _ _ _)
  · exact .refl

theorem State.markPulse_works (lead : Int) (width : Option Int) (s : State) : s.Works (s.markPulse lead width) := by
  unfold State.markPulse
  split
  · exact .refl
  · split
    · exact .refl
    · split
      · exact s.bump_works _
      · split
        · exact s.bump_works _
        · exact State.setReg_works _ _

theorem State.markWidth_works (lead width : Int) (s : State) : s.Works (s.markWidth lead width) := by
  unfold State.markWidth
  dsimp only
  split
  · exact .refl
  · split
    · exact State.setReg_works _ _
    · split
      · exact State.setReg_works _ _
      · exact (State.setReg_works { s.reg with openCandidate := none } s).trans (State.bump_works _ _)

theorem clamp_bounds (limit : Nat) (x : Int) : -(limit : Int) ≤ clamp limit x ∧ clamp limit x ≤ limit := by
  unfold clamp
  split
  · omega
  · split <;> omega

theorem State.correctTrim_works {f : RegSettings} {s : State} (h : s.reg.inForce = some f) (e : Int) :
    s.Works (s.correctTrim f e) := by
  unfold State.correctTrim
  dsimp only
  split
  · exact .refl
  · have hbounds := clamp_bounds f.trimMax (s.reg.trim - clamp f.stepMax (roundSixteenth (e * f.gain)))
    have htrim := State.Work.trim f _ s h hbounds.1 hbounds.2
    split
    · exact .trans (.single htrim) ((State.placeOutbound_works _ _).trans (State.raise_works _ _ _ _))
    · exact .trans (.single htrim) (State.placeOutbound_works _ _)

theorem State.lockMark_works (error : Option Int) (s : State) : s.Works (s.lockMark error) := by
  unfold State.lockMark
  split
  · exact .refl
  · next f hf =>
    split
    case h_1 => exact .refl
    case h_2 => exact State.setReg_works _ s
    case h_3 =>
      split
      · exact State.setReg_works _ s
      · exact .refl
    case h_4 =>
      split
      · split <;> exact State.setReg_works _ s
      · exact State.setReg_works _ s
    case h_5 =>
      split
      · refine .trans ?_ (State.correctTrim_works (by exact hf) _)
        exact State.setReg_works _ s
      · split
        · refine .trans ?_ (State.raise_works _ _ _ _)
          exact State.setReg_works _ s
        · exact State.setReg_works _ s

theorem State.writeMark_works (serial : Nat) (o : MarkOutcome) (s : State) : s.Works (s.writeMark serial o) :=
  State.writeRecord_works _ serial s fun r => by split <;> rfl

theorem State.writeMarkDefects_works (serial : Nat) (f : Format) (o : MarkOutcome) (s : State) :
    s.Works (s.writeMarkDefects serial f o) := by
  unfold State.writeMarkDefects
  split
  · exact s.addDefect_works serial _
  · exact s.addDefect_works serial _
  · next e =>
    dsimp only
    split
    · have hlimit := (s.bumpIf_works (f.warn < e.natAbs) ctrRegWarnings).trans (State.addDefect_works serial .regError _)
      split
      · exact hlimit.trans (State.addDefect_works serial _ _)
      · exact hlimit
    · split
      · exact (s.bumpIf_works _ _).trans (State.addDefect_works serial _ _)
      · exact s.bumpIf_works _ _

theorem State.splicePulse_works (s : State) : s.Works s.splicePulse := by
  unfold State.splicePulse
  split
  · exact .refl
  · exact .refl
  · exact State.setReg_works _ s

theorem State.regOff_works (s : State) : s.Works s.regOff := State.setReg_works _ s

/-! ### The check unit -/

theorem State.checkPulse_works (i : Fin 16) (lead : Int) (s : State) : s.Works (s.checkPulse i lead) := by
  unfold State.checkPulse
  dsimp only
  split
  · exact .refl
  · split
    · exact s.setChk_works i _
    · exact s.bumpIf_works _ _

theorem State.routePulse_works (i : Fin 16) (lead : Int) (width : Option Int) (s : State) :
    s.Works (s.routePulse i lead width) := by
  unfold State.routePulse
  split
  · exact s.markPulse_works lead width
  · exact s.splicePulse_works
  · exact s.boxTaken_works
  · exact s.checkPulse_works i lead
  · exact .refl

theorem State.acceptOpen_works (s : State) (i : Fin 16) : s.Works (s.acceptOpen i) := by
  unfold State.acceptOpen
  split
  · split
    · exact (s.setChk_works i _).trans (State.routePulse_works i _ _ _)
    · exact .refl
  · exact .refl
  · exact .refl

theorem State.leadingEdge_works (i : Fin 16) (position : Int) (s : State) : s.Works (s.leadingEdge i position) := by
  unfold State.leadingEdge
  dsimp only
  refine .trans ?_ (State.acceptOpen_works _ i)
  refine (s.setChk_works i fun x => { x with pulse := .pending position }).trans ?_
  split
  · exact .refl
  · exact State.bump_works _ _
  · split
    · exact (State.bump_works ctrGlitches _).trans (State.setReg_works _ _)
    · exact State.bump_works _ _

theorem State.trailingEdge_works (i : Fin 16) (position : Int) (s : State) : s.Works (s.trailingEdge i position) := by
  unfold State.trailingEdge
  dsimp only
  have hended : s.Works (s.setChk i fun x => { x with pulse := .none }) := s.setChk_works i _
  split
  · exact .refl
  · split
    · exact hended.trans (State.bump_works _ _)
    · exact hended.trans (State.routePulse_works i _ _ _)
  · split
    · exact hended.trans (State.markWidth_works _ _ _)
    · exact hended

theorem State.takeEdge_works (src : Byte) (point : Nat) (level : InLevel) (count : Nat) (s : State) :
    s.Works (s.takeEdge src point level count) := by
  unfold State.takeEdge
  dsimp only
  split
  · exact s.bump_works _
  · split
    · exact s.bump_works _
    · split
      · exact s.bump_works _
      · split
        · exact s.bump_works _
        · split
          · exact s.leadingEdge_works _ _
          · exact s.trailingEdge_works _ _

theorem State.chkCreate_works (r : Record) (s : State) : s.Works (s.chkCreate r) := by
  refine State.foldl_works (fun t i => ?_) _ s
  split
  · exact t.setChk_works i _
  · exact .refl

theorem State.checkDefect_works (i : Fin 16) (serial : Nat) (s : State) : s.Works (s.checkDefect i serial) := by
  unfold State.checkDefect
  dsimp only
  refine (State.writeDefect_works (fun r => { r with failed := appendNew r.failed i }) serial .check s).trans ?_
  refine (State.bumpIf_works (((s.writeCheckDefect serial i).chkInput i).consecutive = 0) (ctrDefectRuns i) _).trans ?_
  split
  · exact (State.setChk_works i _ _).trans (State.raise_works _ _ _ _)
  · exact State.setChk_works i _ _

theorem State.closeCheck_works (i : Fin 16) (serial : Nat) (a : Alternative) (s : State) :
    s.Works (s.closeCheck i serial a) := by
  unfold State.closeCheck
  dsimp only
  split
  · exact s.setChk_works i _
  · split
    · exact (s.setChk_works i _).trans (State.setChk_works i _ _)
    · exact (s.setChk_works i _).trans (State.checkDefect_works i serial _)

theorem State.resolveInput_works (r : Record) (s : State) (i : Fin 16) : s.Works (s.resolveInput r i) := by
  unfold State.resolveInput
  split
  · exact .refl
  · split
    · exact s.setChk_works i _
    · dsimp only
      split
      · exact (s.setChk_works i _).trans (State.closeCheck_works i _ _ _)
      · exact s.setChk_works i _

theorem State.chkResolve_works (r : Record) (s : State) : s.Works (s.chkResolve r) :=
  State.foldl_works (State.resolveInput_works r) _ s

theorem State.closeIfDue_works (previous new : Nat) (i : Fin 16) (s : State) (p : PendingCheck) :
    s.Works (s.closeIfDue previous new i p) := by
  unfold State.closeIfDue
  split
  · split
    · exact s.closeCheck_works i _ _
    · exact .refl
  · exact .refl

theorem State.closeInput_works (previous new : Nat) (s : State) (i : Fin 16) : s.Works (s.closeInput previous new i) :=
  (s.setChk_works i _).trans (State.foldl_works (State.closeIfDue_works previous new i) _ _)

theorem State.chkAdvance_works (previous new : Nat) (s : State) : s.Works (s.chkAdvance previous new) := by
  unfold State.chkAdvance
  refine (State.foldl_works State.acceptOpen_works inputIds s).trans ?_
  dsimp only
  split
  · exact .refl
  · exact State.foldl_works (State.closeInput_works previous new) _ _

theorem State.chkReset_works (s : State) : s.Works s.chkReset := .single (.chk _ s)

theorem State.chkPurge_works (serial : Nat) (s : State) : s.Works (s.chkPurge serial) := .single (.chk _ s)

theorem State.chkLosePosition_works (s : State) : s.Works s.chkLosePosition := by
  have hlost (v : Vector ChkInput 16) : s.Works { s with chk := v, reg := { s.reg with openCandidate := none } } :=
    .trans (.single (.chk v s)) (State.setReg_works { s.reg with openCandidate := none } { s with chk := v })
  exact hlost s.chkLosePosition.chk

/-! ### Mark decisions -/

theorem State.announceDecision_works (serial : Nat) (s : State) : s.Works (s.announceDecision serial) := by
  unfold State.announceDecision
  split
  · exact .refl
  · next r _ => exact State.eitherOrder_works (State.camResolve_works r) (State.chkResolve_works r) s

/-- A decided mark off the list (R40). -/
def State.dropMark (serial : Nat) (s : State) : State :=
  { s with reg := { s.reg with marks := s.reg.marks.filter fun x => x.serial != serial } }

/-- The outcome of a mark in the register of its record (R40, R41): the lock, the write, the defects. -/
def State.judgeMark (serial : Nat) (f : Format) (o : MarkOutcome) (s : State) : State :=
  ((s.lockMark o.error).writeMark serial o).writeMarkDefects serial f o

theorem State.decideMark_missing {m : PendingMark} {s : State} (h : s.findRecord m.serial = none) :
    s.decideMark m = s.dropMark m.serial := by
  unfold State.decideMark
  rw [h]
  rfl

theorem State.decideMark_found {m : PendingMark} {r : Record} {s : State} (h : s.findRecord m.serial = some r) :
    s.decideMark m =
      ((s.dropMark m.serial).judgeMark m.serial (s.format r.format)
        (classify (s.format r.format) m.birth m.candidate)).announceDecision m.serial := by
  unfold State.decideMark
  rw [h]
  rfl

theorem State.dropMark_works (serial : Nat) (s : State) : s.Works (s.dropMark serial) := State.setReg_works _ s

theorem State.judgeMark_works (serial : Nat) (f : Format) (o : MarkOutcome) (s : State) :
    s.Works (s.judgeMark serial f o) :=
  ((s.lockMark_works _).trans (State.writeMark_works serial o _)).trans (State.writeMarkDefects_works serial f o _)

theorem State.decideMark_works (s : State) (m : PendingMark) : s.Works (s.decideMark m) := by
  cases h : s.findRecord m.serial with
  | none =>
    rw [State.decideMark_missing h]
    exact s.dropMark_works m.serial
  | some r =>
    rw [State.decideMark_found h]
    exact ((s.dropMark_works _).trans (State.judgeMark_works _ _ _ _)).trans (State.announceDecision_works _ _)

theorem State.regAdvance_works (previous new : Nat) (s : State) : s.Works (s.regAdvance previous new) := by
  unfold State.regAdvance
  split
  · exact State.foldl_works State.decideMark_works _ s
  · exact .refl

/-! ### The line -/

theorem State.lineNotice_works (p : LineState) (s : State) : s.Works (s.lineNotice p) := s.notice_works _

theorem State.placeDrive_works (c : DriveCommand) (s : State) : s.Works (s.placeDrive c) := s.placeOutbound_works _

theorem State.setLine_works {l : LineState} (r : StopReason) {s : State} (h : s.sup.line.stage ≤ l.stage) :
    s.Works (s.setLine l r) := .single (.line l r s h)

/-- A run-out that completes leaves RUN or RUNOUT for IDLE. -/
theorem State.completeRunout_works {s : State} (h : s.sup.line.stage ≤ 2) : s.Works s.completeRunout :=
  (State.setLine_works (l := .idle) _ h).trans <| (State.camRunoutEnd_works _).trans <| (State.regOff_works _).trans <|
    (State.placeDrive_works .stop _).trans (State.lineNotice_works _ _)

theorem State.stop_works (r : StopReason) (s : State) : s.Works (s.stop r) := by
  unfold State.stop
  split
  · next hrun =>
    have hout : s.Works ((s.setLine .runout r).lineNotice .run) :=
      (State.setLine_works r (by rw [hrun]; decide)).trans (State.lineNotice_works _ _)
    dsimp only
    split
    · exact hout.trans (State.completeRunout_works (by rw [State.lineNotice_sup_line]; exact (by decide : 1 ≤ 2)))
    · exact hout
  · exact .refl

theorem State.halt_works (r : StopReason) (s : State) : s.Works (s.halt r) := by
  unfold State.halt
  split
  · exact .refl
  · refine (State.setLine_works (l := .safe) r (by cases s.sup.line <;> decide)).trans ?_
    refine .trans (.single (.empty _)) ?_
    exact (State.placeDrive_works .halt _).trans <| (State.camSafe_works _).trans <| (State.regOff_works _).trans <|
      State.lineNotice_works _ _

theorem State.applyEffect_works (s : State) (d : Deferred) : s.Works (s.applyEffect d) := by
  cases d with
  | stop r => exact s.stop_works r
  | halt r => exact s.halt_works r

theorem State.applyEffects_works (s : State) : s.Works s.applyEffects :=
  .trans (.single (.effects [] s)) (State.foldl_works State.applyEffect_works _ _)

theorem State.settle_works (s : State) : s.Works s.settle := s.applyEffects_works.trans (State.applyEffects_works _)

/-! ### The lot unit and the tracking queue -/

/-- A change of the lots alone. -/
theorem State.setLots_acts (l : List Lot) (s : State) (h : s.lot.table.length ≤ 8 → l.length ≤ 8) :
    s.Acts { s with lot := { s.lot with table := l } } := .single (.lots { s.lot with table := l } s.trq s h id)

theorem State.writeLot_acts (k : LotKey) (f : Lot → Lot) (s : State) : s.Acts (s.writeLot k f) :=
  s.setLots_acts _ fun h => by rw [List.length_map]; exact h

/-- A change of the records alone. -/
theorem State.setTrq_acts (q : Trq) (s : State) : s.Acts { s with trq := q } := .single (.lots s.lot q s id id)

theorem placeMakeUp_length (skip : Nat) (new : Lot) (l : List Lot) : (placeMakeUp skip new l).length = l.length + 1 := by
  induction l generalizing skip with
  | nil => rfl
  | cons x rest ih =>
    unfold placeMakeUp
    split
    · split
      · rfl
      · rw [List.length_cons, ih, List.length_cons]
    · rw [List.length_cons, ih, List.length_cons]

/-- The end of a lot behind its last batch (R139, R140): outcome, notice, removal, make-up lot. -/
def State.dissolveLot (l : Lot) (skip : Nat) (s : State) : State × Bool :=
  let outcome := s.makeUpOutcome l
  let told := s.notice (.lotDone (lotDoneOf l outcome))
  let rest := s.lot.table.filter fun x => x.key != l.key
  let child := Lot.create (makeUpKey l.key) l.format (l.target - l.stacked) l.batchSize true
  ({ told with lot := { s.lot with table := if outcome = .made then placeMakeUp skip child rest else rest } },
    outcome == .made)

/-- A lot whose delivery batch is completed (R120). -/
def Lot.batchDone (l : Lot) : Lot := { l with completed := l.completed + 1, delivered := 0, contaminated := false }

theorem State.findLot_key {k : LotKey} {l : Lot} {s : State} (h : s.findLot k = some l) : l.key = k := by
  simpa using List.find?_some h

theorem State.findLot_mem {k : LotKey} {l : Lot} {s : State} (h : s.findLot k = some l) : l ∈ s.lot.table :=
  List.mem_of_find?_eq_some h

/-- A write that keeps the keys changes the lot that is found. -/
theorem State.findLot_writeLot (k : LotKey) (f : Lot → Lot) (s : State)
    (h : ∀ l, (f l).key = l.key := by intros; rfl) : (s.writeLot k f).findLot k = (s.findLot k).map f := by
  unfold State.findLot State.writeLot
  induction s.lot.table with
  | nil => rfl
  | cons x rest ih =>
    rw [List.map_cons]
    by_cases hx : x.key = k
    · have hf : (f x).key = k := (h x).trans hx
      simp [hx, hf]
    · simpa [hx] using ih

theorem State.completeBatch_found {k : LotKey} {l : Lot} {s : State} (h : s.findLot k = some l) (unmarkedEnd : Bool) :
    (s.completeBatch k unmarkedEnd).findLot k = some l.batchDone := by
  have hwritten : (s.writeLot k Lot.batchDone).findLot k = some l.batchDone := by
    rw [State.findLot_writeLot k Lot.batchDone, h]
    rfl
  unfold State.completeBatch
  rw [h]
  dsimp only
  unfold State.findLot at hwritten ⊢
  split
  · rw [State.notice_lot]
    exact hwritten
  · rw [State.notice_lot, State.raise_lot]
    exact hwritten

theorem State.endLot_missing {k : LotKey} {s : State} (h : s.findLot k = none) (skip : Nat) :
    s.endLot k skip = (s, false) := by
  unfold State.endLot
  rw [h]

/-- A lot without a delivery batch begun ends as it is. -/
theorem State.endLot_clean {k : LotKey} {l : Lot} {s : State} (h : s.findLot k = some l) (skip : Nat)
    (hlast : ¬(0 < l.delivered ∨ l.contaminated = true)) : s.endLot k skip = s.dissolveLot l skip := by
  unfold State.endLot State.dissolveLot
  rw [h]
  dsimp only
  rw [if_neg hlast, h, Option.getD_some, State.findLot_key h, State.notice_lot]

/-- A lot with a delivery batch begun completes it, then ends (R122). -/
theorem State.endLot_batch {k : LotKey} {l : Lot} {s : State} (h : s.findLot k = some l) (skip : Nat)
    (hlast : 0 < l.delivered ∨ l.contaminated = true) :
    s.endLot k skip = (s.completeBatch k true).dissolveLot l.batchDone skip := by
  unfold State.endLot State.dissolveLot
  rw [h]
  dsimp only
  rw [if_pos hlast, State.completeBatch_found h, Option.getD_some, State.notice_lot,
    show l.batchDone.key = k from (State.findLot_key h :)]

/-- A make-up lot is made only for a table with room (R140). -/
theorem State.makeUpOutcome_made {l : Lot} {s : State} (h : s.makeUpOutcome l = .made) :
    l.target - l.stacked ≠ 0 ∧ l.makeUp = true ∧ s.lot.table.length < 8 ∧
      ∀ x ∈ s.lot.table, x.key ≠ l.key → x.key ≠ makeUpKey l.key := by
  unfold State.makeUpOutcome at h
  split at h
  · contradiction
  next hshort =>
  split at h
  · contradiction
  next hmakeUp =>
  split at h
  · contradiction
  next hroom =>
  split at h
  · contradiction
  next hkey =>
  refine ⟨hshort, by simpa using hmakeUp, Nat.lt_of_not_le hroom, fun x hx hne heq => hkey ?_⟩
  exact List.any_eq_true.mpr ⟨x, hx, by simpa [heq] using heq ▸ hne⟩

theorem State.dissolveLot_acts (l : Lot) (skip : Nat) (s : State) : s.Acts (s.dissolveLot l skip).1 := by
  have hrest := List.length_filter_le (fun x : Lot => x.key != l.key) s.lot.table
  refine (s.notice_works (.lotDone (lotDoneOf l (s.makeUpOutcome l)))).acts.trans
    (.single (.lots _ _ _ (fun h => ?_) fun h => ?_))
  · rw [State.notice_lot] at h
    dsimp only
    split
    · next hmade =>
      obtain ⟨-, -, hroom, -⟩ := State.makeUpOutcome_made hmade
      rw [placeMakeUp_length]
      omega
    · omega
  · rw [State.notice_lot] at h
    exact h

theorem State.endLot_acts (k : LotKey) (skip : Nat) (s : State) : s.Acts (s.endLot k skip).1 := by
  cases h : s.findLot k with
  | none =>
    rw [State.endLot_missing h]
  | some l =>
    by_cases hlast : 0 < l.delivered ∨ l.contaminated = true
    · rw [State.endLot_batch h skip hlast]
      exact (s.completeBatch_works k true).acts.trans (State.dissolveLot_acts _ skip _)
    · rw [State.endLot_clean h skip hlast]
      exact s.dissolveLot_acts l skip

theorem State.endIfDone_acts (k : LotKey) (s : State) : s.Acts (s.endIfDone k) := by
  unfold State.endIfDone
  split
  · exact .refl
  · split
    · exact s.endLot_acts k 0
    · exact .refl

theorem State.retireLot_acts (r : Record) (s : State) : s.Acts (s.retireLot r) := by
  have hcounted := (s.writeLot_acts r.lot fun l => l.retire r.final).trans (State.moveDeadlines_works _).acts
  unfold State.retireLot
  refine .trans (hcounted.trans ?_) (State.endIfDone_acts _ _)
  split
  · exact (State.completeBatch_works _ _ _).acts
  · split
    · exact (State.completeBatch_works _ _ _).acts
    · exact .refl

theorem State.trqAdvance_acts (previous new : Nat) (s : State) : s.Acts (s.trqAdvance previous new) := by
  unfold State.trqAdvance
  split
  · split
    · exact .refl
    · next r rest _ =>
      dsimp only
      split
      · have hleft := (s.retireLot_acts r).trans (State.setTrq_acts { (s.retireLot r).trq with queue := rest } _)
        split
        · next h => exact hleft.trans (State.completeRunout_works (by rw [h.2]; decide)).acts
        · exact hleft
      · exact .refl
  · exact .refl

theorem State.createRecord_acts (key : LotKey) (format : Fin 16) (pitch : Nat) (s : State) :
    s.Acts (s.createRecord key format pitch) := by
  unfold State.createRecord
  refine .trans (.trans (.trans ?_ (State.regCreate_works _ _).acts) (State.camCreate_works _ _).acts)
    (State.chkCreate_works _ _).acts
  exact s.setTrq_acts _

theorem State.cutFor_acts (l : Lot) (pitch : Nat) (s : State) : s.Acts (s.cutFor l pitch) :=
  (s.writeLot_acts _ _).trans (State.createRecord_acts _ _ _ _)

theorem State.askFormat_works (f : Fin 16) (s : State) : s.Works (s.askFormat f).2 := by
  unfold State.askFormat
  dsimp only
  split
  · exact .refl
  · split
    · exact .refl
    · exact s.setFormat_works f _

theorem State.admitLot_acts (l : Lot) (pitch : Nat) (s : State) : s.Acts (s.admitLot l pitch) := by
  have hasked := (s.askFormat_works l.format).acts
  unfold State.admitLot
  dsimp only
  split
  · exact hasked.trans (State.raise_works _ _ _ _).acts
  · exact hasked.trans (State.raise_works _ _ _ _).acts
  · split
    · exact hasked.trans (State.raise_works _ _ _ _).acts
    · split
      · exact hasked.trans (State.defer_works _ _).acts
      · exact hasked.trans ((State.writeLot_acts _ _ _).trans (State.cutFor_acts _ _ _))

theorem State.admitNext_acts (pitch : Nat) (s : State) : s.Acts (s.admitNext pitch) := by
  unfold State.admitNext
  split
  · exact s.admitLot_acts _ pitch
  · exact (s.defer_works _).acts

theorem State.closeLot_acts (k : LotKey) (s : State) : s.Acts (s.closeLot k) :=
  (s.writeLot_acts k _).trans (State.endIfDone_acts k _)

theorem State.cutDecision_acts (pitch : Nat) (s : State) : s.Acts (s.cutDecision pitch) := by
  unfold State.cutDecision
  split
  · exact .refl
  · split
    · split
      · exact s.cutFor_acts _ pitch
      · exact (s.closeLot_acts _).trans (State.admitNext_acts pitch _)
    · exact s.admitNext_acts pitch

theorem State.lotAdvance_acts (previous new : Nat) (s : State) : s.Acts (s.lotAdvance previous new) := by
  unfold State.lotAdvance
  split
  · split
    · exact s.cutDecision_acts _
    · exact .refl
  · exact .refl

/-! ### Advances -/

theorem State.takeTurn_acts (previous new : Nat) (effects : List Deferred) (s : State) (turn : Turn) :
    s.Acts (s.takeTurn previous new effects turn) := by
  cases turn with
  | cam => exact s.camAdvance_works.acts.trans (State.settle_works _).acts
  | chk => exact (s.chkAdvance_works previous new).acts.trans (State.settle_works _).acts
  | reg => exact (s.regAdvance_works previous new).acts.trans (State.settle_works _).acts
  | lot => exact (s.lotAdvance_acts previous new).trans (State.settle_works _).acts
  | trq => exact (s.trqAdvance_acts previous new).trans (State.settle_works _).acts
  | sup => exact (State.effects_works effects s).acts.trans (State.settle_works _).acts

theorem State.foldl_acts {α : Type} {f : State → α → State} (h : ∀ (s : State) a, s.Acts (f s a)) :
    ∀ (l : List α) (s : State), s.Acts (l.foldl f s)
  | [], _ => .refl
  | a :: l, s => (h s a).trans (State.foldl_acts h l (f s a))

theorem State.advance_acts (previous new : Nat) (s : State) : s.Acts (s.advance previous new) := by
  refine (s.choose_works.acts.trans (State.effects_works [] _).acts).trans ?_
  exact State.foldl_acts (State.takeTurn_acts previous new s.sup.deferred) (advanceOrder (Config.pick s.free)) _

end Sys2Proof.Machine

/-! ## What a command can do, said once: the deeds of a command and what they keep -/

namespace Sys2Proof.Machine

/-! ### What works and acts leave -/

theorem State.Work.frame {s t : State} (h : s.Work t) :
    t.pos = s.pos ∧ t.pending = s.pending ∧ t.rif.own = s.rif.own ∧ t.rif.linkUp = s.rif.linkUp ∧
      t.rif.reserved = s.rif.reserved := by
  cases h with
  | raise | place | notice => simp
  | _ => exact ⟨rfl, rfl, rfl, rfl, rfl⟩

theorem State.Act.frame {s t : State} (h : s.Act t) :
    t.pos = s.pos ∧ t.pending = s.pending ∧ t.rif.own = s.rif.own ∧ t.rif.linkUp = s.rif.linkUp ∧
      t.rif.reserved = s.rif.reserved := by
  cases h with
  | work h => exact h.frame
  | lots => exact ⟨rfl, rfl, rfl, rfl, rfl⟩

theorem State.Acts.frame {s t : State} (h : s.Acts t) :
    t.pos = s.pos ∧ t.pending = s.pending ∧ t.rif.own = s.rif.own ∧ t.rif.linkUp = s.rif.linkUp ∧
      t.rif.reserved = s.rif.reserved := by
  refine State.Acts.keeps (P := fun u => u.pos = s.pos ∧ u.pending = s.pending ∧ u.rif.own = s.rif.own ∧
    u.rif.linkUp = s.rif.linkUp ∧ u.rif.reserved = s.rif.reserved) (fun u v huv hu => ?_) h ⟨rfl, rfl, rfl, rfl, rfl⟩
  obtain ⟨hpos, hpending, hown, hlink, hreserved⟩ := huv.frame
  exact ⟨hpos.trans hu.1, hpending.trans hu.2.1, hown.trans hu.2.2.1, hlink.trans hu.2.2.2.1, hreserved.trans hu.2.2.2.2⟩

theorem State.Acts.pos {s t : State} (h : s.Acts t) : t.pos = s.pos := h.frame.1

theorem State.Acts.reserved {s t : State} (h : s.Acts t) : t.rif.reserved = s.rif.reserved := by
  obtain ⟨-, -, -, -, hreserved⟩ := h.frame
  exact hreserved

/-- The line moves on, or stays (R145). -/
theorem State.Act.stage_le {s t : State} (h : s.Act t) : s.sup.line.stage ≤ t.sup.line.stage := by
  cases h with
  | lots => exact Nat.le_refl _
  | work h =>
    cases h with
    | raise | place | notice => simp
    | line _ _ _ h => exact h
    | _ => exact Nat.le_refl _

theorem State.Acts.stage_le {s t : State} (h : s.Acts t) : s.sup.line.stage ≤ t.sup.line.stage :=
  State.Acts.keeps (P := fun u => s.sup.line.stage ≤ u.sup.line.stage) (fun _ _ huv hu => hu.trans huv.stage_le) h
    (Nat.le_refl _)

/-! ### Deeds -/

/-- One change that a command can make, beside a reset. -/
inductive State.Deed : State → State → Prop
  | act {s t : State} (h : State.Act s t) : Deed s t
  | wire (r : Rif) (s : State) (hown : r.own = s.rif.own)
      (hout : s.rif.outbound.length ≤ 64 → r.outbound.length ≤ 64)
      (hmgmt : r.management.length ≤ s.rif.management.length) (hreserved : r.reserved = s.rif.reserved) :
      Deed s { s with rif := r }
  | position (p : Pos) (s : State) (h : s.pos.history.length ≤ 8 → p.history.length ≤ 8) : Deed s { s with pos := p }
  | line (l : LineState) (r : StopReason) (s : State) : Deed s (s.setLine l r)
  | store (st : Store) (s : State) : Deed s { s with store := st }
  | register (r : Reg) (s : State) (htrim : r.trim = 0) (hclass : r.trimClass.isSome ↔ r.inForce.isSome) :
      Deed s { s with reg := r }
  | counters (v : Vector Nat 38) (s : State) (h : ∀ c : Fin 38, v.get c ≤ s.sup.counters.get c) :
      Deed s { s with sup := { s.sup with counters := v } }
  | clearLog (s : State) : Deed s s.clearLog

/-- What a command can do, change by change. -/
abbrev State.Deeds : State → State → Prop := Relation.ReflTransGen State.Deed

protected theorem State.Deeds.trans {s t u : State} (h : s.Deeds t) (h' : t.Deeds u) : s.Deeds u :=
  Relation.ReflTransGen.trans h h'

theorem State.Acts.deeds {s t : State} (h : s.Acts t) : s.Deeds t :=
  Relation.ReflTransGen.mono (fun _ _ => .act) _ _ h

theorem State.Works.deeds {s t : State} (h : s.Works t) : s.Deeds t := h.acts.deeds

theorem State.Deed.reserved {s t : State} (h : s.Deed t) : t.rif.reserved = s.rif.reserved := by
  cases h with
  | act h =>
    obtain ⟨-, -, -, -, hreserved⟩ := h.frame
    exact hreserved
  | wire _ _ _ _ _ hreserved => exact hreserved
  | _ => rfl

theorem State.Deeds.reserved {s t : State} (h : s.Deeds t) : t.rif.reserved = s.rif.reserved := by
  induction h with
  | refl => rfl
  | tail _ hc ih => exact hc.reserved.trans ih

/-- One change of a command, the reservation of a response and its placing among them. -/
inductive State.Task : State → State → Prop
  | deed {s t : State} (h : State.Deed s t) : Task s t
  | wire (r : Rif) (s : State) (hown : r.own = s.rif.own)
      (hout : s.rif.outbound.length ≤ 64 → r.outbound.length ≤ 64)
      (hmgmt : s.rif.management.length + s.rif.reserved ≤ 16 → r.management.length + r.reserved ≤ 16) :
      Task s { s with rif := r }

/-- What a whole command can do, change by change. -/
abbrev State.Tasks : State → State → Prop := Relation.ReflTransGen State.Task

protected theorem State.Tasks.trans {s t u : State} (h : s.Tasks t) (h' : t.Tasks u) : s.Tasks u :=
  Relation.ReflTransGen.trans h h'

theorem State.Deeds.tasks {s t : State} (h : s.Deeds t) : s.Tasks t :=
  Relation.ReflTransGen.mono (fun _ _ => .deed) _ _ h

theorem State.Tasks.keeps {P : State → Prop} (h : ∀ s t, s.Task t → P s → P t) {s t : State} (hst : s.Tasks t)
    (hs : P s) : P t := by
  induction hst with
  | refl => exact hs
  | tail _ hc ih => exact h _ _ hc ih

theorem State.Task.frame {s t : State} (h : s.Task t) : t.pending = s.pending ∧ t.rif.own = s.rif.own := by
  cases h with
  | wire _ _ hown => exact ⟨rfl, hown⟩
  | deed h =>
    cases h with
    | act h =>
      obtain ⟨-, hpending, hown, -⟩ := h.frame
      exact ⟨hpending, hown⟩
    | wire _ _ hown => exact ⟨rfl, hown⟩
    | _ => exact ⟨rfl, rfl⟩

theorem State.Tasks.frame {s t : State} (h : s.Tasks t) : t.pending = s.pending ∧ t.rif.own = s.rif.own :=
  State.Tasks.keeps (P := fun u => u.pending = s.pending ∧ u.rif.own = s.rif.own)
    (fun _ _ huv hu => ⟨huv.frame.1.trans hu.1, huv.frame.2.trans hu.2⟩) h ⟨rfl, rfl⟩

/-! ### The fault log (R157) -/

theorem rising_append {l : List Nat} {n : Nat} (hl : rising l) (h : ∀ x ∈ l, x < n) : rising (l ++ [n]) := by
  induction l with
  | nil => trivial
  | cons a rest ih =>
    cases rest with
    | nil => exact ⟨h a (by simp), trivial⟩
    | cons b rest => exact ⟨hl.1, ih hl.2 fun x hx => h x (by simp [hx])⟩

theorem State.raiseAt_logOrdered (k : FaultKind) (e : Effect) (p : Nat) (d : Detail) {s : State} (h : s.LogOrdered) :
    (s.raiseAt k e p d).LogOrdered := by
  obtain ⟨hrising, hle, hlast⟩ := h
  unfold State.LogOrdered
  rw [State.raiseAt_log, State.raiseAt_sup_lastSequence]
  by_cases hmax : s.sup.lastSequence = 4294967295
  · rw [if_neg (fun hc => hc.1 hmax), if_pos hmax]
    exact ⟨hrising, hle, hlast⟩
  · rw [if_neg hmax]
    refine ⟨?_, ?_, by omega⟩
    · split
      · rw [List.map_append]
        refine rising_append hrising fun x hx => ?_
        obtain ⟨r, hr, rfl⟩ := List.mem_map.mp hx
        exact Nat.lt_succ_of_le (hle r hr)
      · exact hrising
    · intro r hr
      split at hr
      · rcases List.mem_append.mp hr with hold | hnew
        · exact (hle r hold).trans (Nat.le_succ _)
        · rw [List.mem_singleton.mp hnew]
      · exact (hle r hr).trans (Nat.le_succ _)

theorem State.Deed.logOrdered {s t : State} (h : s.Deed t) (hs : s.LogOrdered) : t.LogOrdered := by
  cases h with
  | clearLog => exact ⟨trivial, fun _ hr => absurd hr List.not_mem_nil, hs.2.2⟩
  | act h =>
    cases h with
    | lots => exact hs
    | work h =>
      cases h with
      | raise k e p d => exact State.raiseAt_logOrdered k e p d hs
      | notice n => simpa [State.LogOrdered] using hs
      | place f =>
        rcases s.placeOutbound_cases f with ⟨-, h⟩ | ⟨-, -, h⟩ | ⟨-, -, h⟩
        · rw [h]; exact hs
        · rw [h]; exact hs
        · rw [h]; exact State.raiseAt_logOrdered _ _ _ _ (s := { s with rif := { s.rif with overrun := true } }) hs
      | _ => exact hs
  | _ => exact hs

/-! ### The trim (R36) -/

theorem State.Deed.trimHeld {s t : State} (h : s.Deed t) (hs : s.TrimHeld) : t.TrimHeld := by
  have hreg (u : State) (hu : u.reg = s.reg) : u.TrimHeld := by
    unfold State.TrimHeld
    rw [hu]
    exact hs
  cases h with
  | register r _ htrim hclass =>
    refine ⟨hclass, ?_⟩
    dsimp only
    split
    · exact htrim
    · rw [htrim]
      omega
  | act h =>
    cases h with
    | lots => exact hs
    | work h =>
      cases h with
      | reg r _ htrim hforce hclass =>
        unfold State.TrimHeld
        dsimp only
        rw [htrim, hforce, hclass]
        exact hs
      | trim f t _ hforce hlow hhigh =>
        refine ⟨hs.1, ?_⟩
        dsimp only
        rw [hforce]
        exact ⟨hlow, hhigh⟩
      | raise | place | notice => exact hreg _ (by simp)
      | _ => exact hs
  | _ => exact hs

/-! ### The bounds (R1, R113, R129, R157, R163, R168) -/

/-- The bounds of the state, reserved places counted as taken. -/
structure State.Bounds (s : State) : Prop where
  history : s.pos.history.length ≤ 8
  outbound : s.rif.outbound.length ≤ 64
  management : s.rif.management.length + s.rif.reserved ≤ 16
  log : s.sup.log.length ≤ 16
  overflow : s.sup.overflow ≤ 255
  table : s.lot.table.length ≤ 8
  boxes : s.lot.boxes.length ≤ 2
  counters : ∀ c : Fin 38, s.sup.counters.get c ≤ 65535

theorem State.bounded_iff {s : State} : s.Bounded ↔ s.Bounds ∧ s.rif.reserved = 0 := by
  constructor
  · rintro ⟨hhist, hout, hmgmt, hres, hlog, hover, htable, hboxes, hctr⟩
    exact ⟨⟨hhist, hout, by omega, hlog, hover, htable, hboxes, hctr⟩, hres⟩
  · rintro ⟨⟨hhist, hout, hmgmt, hlog, hover, htable, hboxes, hctr⟩, hres⟩
    exact ⟨hhist, hout, by omega, hres, hlog, hover, htable, hboxes, hctr⟩

theorem State.bump_bounds (c : Fin 38) {s : State} (h : s.Bounds) : (s.bump c).Bounds :=
  { h with
    counters := fun d => by
      rw [State.bump_counters]
      split
      · exact saturate_le _ (h.counters c)
      · exact h.counters d }

theorem State.notice_bounds (n : Notice) {s : State} (h : s.Bounds) : (s.notice n).Bounds := by
  rcases s.notice_cases n with ⟨hfree, he⟩ | ⟨-, he⟩
  · rw [he]
    obtain ⟨hmgmt, hout⟩ := Rif.pushManagement_length s.rif (.notice s.settings.noticeAddress n)
    have hroom : 0 < 16 - (s.rif.management.length + s.rif.reserved) := hfree
    exact { h with
      outbound := hout.trans h.outbound
      management := by dsimp only; rw [Rif.pushManagement_reserved]; omega }
  · rw [he]
    exact State.bump_bounds _ h

theorem State.raiseAt_bounds (k : FaultKind) (e : Effect) (p : Nat) (d : Detail) {s : State} (h : s.Bounds) :
    (s.raiseAt k e p d).Bounds := by
  refine State.notice_bounds _ { h with log := ?_, overflow := ?_ }
  · have hlog := h.log
    dsimp only
    split
    · next hstored =>
      rw [Bool.and_eq_true, decide_eq_true_eq] at hstored
      rw [List.length_append]
      exact hstored.2
    · exact hlog
  · have hover := h.overflow
    dsimp only
    split
    · exact hover
    · exact Nat.min_le_left _ _

theorem State.placeOutbound_bounds (f : OutFrame) {s : State} (h : s.Bounds) : (s.placeOutbound f).Bounds := by
  rcases s.placeOutbound_cases f with ⟨hroom, he⟩ | ⟨-, -, he⟩ | ⟨-, -, he⟩
  · rw [he]
    obtain ⟨hout, hmgmt⟩ := Rif.pushOutbound_length s.rif f
    have hold := h.management
    exact { h with
      outbound := by dsimp only; omega
      management := by dsimp only; rw [Rif.pushOutbound_reserved]; omega }
  · rw [he]
    exact h
  · rw [he]
    exact State.raiseAt_bounds _ _ _ _ { h with }

theorem State.Deed.bounds {s t : State} (hd : s.Deed t) (h : s.Bounds) : t.Bounds := by
  cases hd with
  | wire r _ _ hout hmgmt hreserved =>
    have hold := h.management
    exact { h with outbound := hout h.outbound, management := by dsimp only; omega }
  | position p _ hp => exact { h with history := hp h.history }
  | counters v _ hv => exact { h with counters := fun c => (hv c).trans (h.counters c) }
  | clearLog => exact { h with log := Nat.zero_le _, overflow := Nat.zero_le _ }
  | line | store | register => exact { h with }
  | act ha =>
    cases ha with
    | lots l q _ htable hboxes => exact { h with table := htable h.table, boxes := hboxes h.boxes }
    | work hw =>
      cases hw with
      | count c => exact State.bump_bounds c h
      | notice n => exact State.notice_bounds n h
      | raise k e p d => exact State.raiseAt_bounds k e p d h
      | place f => exact State.placeOutbound_bounds f h
      | lots l _ hlength => exact { h with table := hlength.trans_le h.table }
      | boxes b _ hb => exact { h with boxes := hb h.boxes }
      | empty => exact { h with outbound := Nat.zero_le _ }
      | _ => exact { h with }

theorem State.Task.logOrdered {s t : State} (h : s.Task t) (hs : s.LogOrdered) : t.LogOrdered := by
  cases h with
  | deed h => exact h.logOrdered hs
  | wire => exact hs

theorem State.Task.trimHeld {s t : State} (h : s.Task t) (hs : s.TrimHeld) : t.TrimHeld := by
  cases h with
  | deed h => exact h.trimHeld hs
  | wire => exact hs

theorem State.Task.bounds {s t : State} (ht : s.Task t) (h : s.Bounds) : t.Bounds := by
  cases ht with
  | deed hd => exact hd.bounds h
  | wire r _ _ hout hmgmt => exact { h with outbound := hout h.outbound, management := hmgmt h.management }

end Sys2Proof.Machine

/-! ## The requests, said once: code, tag, parts and owner of each, and what received bytes spell -/

namespace Sys2Proof.Machine

/-- How a request is served (R176): its source, code and tag, the parts of its response, its owner, and whether faults
raised by its owner are taken as it ends. -/
structure Service where
  src : Byte
  code : Byte
  tag : Byte
  parts : State → Nat
  owner : State → State × Reply
  settles : Bool

/-- The service of a request command; none for a command that is no request. -/
def service : Instr → Option Service
  | .channelSet src tag a => some ⟨src, 1, tag, fun _ => 1, channelSetOwner a, false⟩
  | .inputSet src tag a => some ⟨src, 2, tag, fun _ => 1, inputSetOwner a, false⟩
  | .mapSet src tag a => some ⟨src, 3, tag, fun _ => 1, mapSetOwner a, false⟩
  | .settingsSet src tag a => some ⟨src, 4, tag, fun _ => 1, settingsSetOwner a, false⟩
  | .formatOpen src tag id => some ⟨src, 5, tag, fun _ => 1, formatOpenOwner id, false⟩
  | .formatLoad src tag id items => some ⟨src, 6, tag, fun _ => 1, formatLoadOwner id items, false⟩
  | .formatCommit src tag id sum => some ⟨src, 7, tag, fun _ => 1, formatCommitOwner id sum, false⟩
  | .formatErase src tag id => some ⟨src, 8, tag, fun _ => 1, formatEraseOwner id, false⟩
  | .formatRead src tag id page => some ⟨src, 9, tag, fun _ => 1, formatReadOwner id page, false⟩
  | .lotAdd src tag a => some ⟨src, 10, tag, fun _ => 1, lotAddOwner a, false⟩
  | .lotCancel src tag id makeUp => some ⟨src, 11, tag, fun _ => 1, lotCancelOwner id makeUp, true⟩
  | .lotRead src tag selector id place => some ⟨src, 12, tag, fun _ => 1, lotReadOwner selector id place, false⟩
  | .lineStart src tag => some ⟨src, 13, tag, fun _ => 1, lineStartOwner, true⟩
  | .lineStop src tag => some ⟨src, 14, tag, fun _ => 1, lineStopOwner, true⟩
  | .lineHalt src tag => some ⟨src, 15, tag, fun _ => 1, lineHaltOwner, true⟩
  | .lineClear src tag => some ⟨src, 16, tag, fun _ => 1, lineClearOwner, true⟩
  | .lineReset src tag => some ⟨src, 17, tag, fun _ => 1, lineResetOwner, true⟩
  | .manualSet src tag channel level => some ⟨src, 18, tag, fun _ => 1, manualSetOwner channel level, true⟩
  | .statusRead src tag => some ⟨src, 19, tag, fun _ => 2, statusReadOwner, false⟩
  | .trackRead src tag => some ⟨src, 20, tag, trackParts, trackReadOwner, false⟩
  | .countersRead src tag groups clear => some ⟨src, 21, tag, fun _ => 1, countersReadOwner groups clear, false⟩
  | .logRead src tag first => some ⟨src, 22, tag, logParts first, logReadOwner first, false⟩
  | .logClear src tag sequence => some ⟨src, 23, tag, fun _ => 1, logClearOwner sequence, false⟩
  | _ => none

/-- The service of a payload that spells no request (R176 step 1). -/
def undecodedService (src : Byte) (payload : List Byte) : Service :=
  ⟨src, echoByte payload 0, echoByte payload 1, fun _ => 1, fun s => (s, .plain .badValue), false⟩

/-- A request served. -/
def Service.run (v : Service) (s : State) : State :=
  if v.settles then (takeRequest v.src v.code v.tag (v.parts s) v.owner s).settle
  else takeRequest v.src v.code v.tag (v.parts s) v.owner s

/-- A request command is its service. -/
theorem exec_service {i : Instr} {v : Service} (h : service i = some v) (s : State) : exec i s = .next (v.run s) := by
  unfold service at h
  split at h
  case h_24 => contradiction
  all_goals
    rw [← Option.some.inj h]
    rfl

theorem requestSource_service {i : Instr} {v : Service} (h : service i = some v) : requestSource i = some v.src := by
  unfold service at h
  split at h
  case h_24 => contradiction
  all_goals
    rw [← Option.some.inj h]
    rfl

theorem responseParts_service {i : Instr} {v : Service} (h : service i = some v) (s : State) :
    responseParts s i = v.parts s := by
  unfold service at h
  split at h
  case h_24 => contradiction
  all_goals
    rw [← Option.some.inj h]
    rfl

/-- A command has a payload of a request exactly where it has a service. -/
theorem service_isSome (i : Instr) : (service i).isSome = (encodeRequest i).isSome := by
  cases i <;> rfl

end Sys2Proof.Machine

/-! ## Settled: the codec of requests -/

namespace Sys2Proof.Machine

/-! ### Fields of two and four bytes -/

theorem extractLsb'_append_high {w v : Nat} (a : BitVec w) (b : BitVec v) : (a ++ b).extractLsb' v w = a := by
  refine BitVec.eq_of_getLsbD_eq fun i hi => ?_
  simp [BitVec.getLsbD_append, hi]

theorem extractLsb'_append_low {w v : Nat} (a : BitVec w) (b : BitVec v) : (a ++ b).extractLsb' 0 v = b := by
  refine BitVec.eq_of_getLsbD_eq fun i hi => ?_
  simp [BitVec.getLsbD_append, hi]

theorem halfBytes_half (hi lo : Byte) : halfBytes (half hi lo) = [hi, lo] := by
  have hhigh : (half hi lo).extractLsb' 8 8 = hi := extractLsb'_append_high hi lo
  have hlow : (half hi lo).extractLsb' 0 8 = lo := extractLsb'_append_low hi lo
  rw [halfBytes, hhigh, hlow]

/-- The high and low half of a four-byte field. -/
theorem quadBytes_append (q : Quad) :
    quadBytes q = halfBytes (q.extractLsb' 16 16) ++ halfBytes (q.extractLsb' 0 16) := by
  have hpart (a b : Nat) (hab : b + 8 ≤ 16) : (q.extractLsb' a 16).extractLsb' b 8 = q.extractLsb' (a + b) 8 := by
    refine BitVec.eq_of_getLsbD_eq fun i hi => ?_
    have hin : b + i < 16 := by omega
    simp [hi, hin, Nat.add_assoc]
  simp only [quadBytes, halfBytes, List.cons_append, List.nil_append, hpart 16 8 (by omega), hpart 16 0 (by omega),
    hpart 0 8 (by omega), hpart 0 0 (by omega)]

theorem quadBytes_quad (b3 b2 b1 b0 : Byte) : quadBytes (quad b3 b2 b1 b0) = [b3, b2, b1, b0] := by
  have hhigh : (quad b3 b2 b1 b0).extractLsb' 16 16 = half b3 b2 := extractLsb'_append_high (half b3 b2) (half b1 b0)
  have hlow : (quad b3 b2 b1 b0).extractLsb' 0 16 = half b1 b0 := extractLsb'_append_low (half b3 b2) (half b1 b0)
  rw [quadBytes_append, hhigh, hlow, halfBytes_half, halfBytes_half]
  rfl

/-- The parts of a field put together again. -/
theorem append_extractLsb' {w v : Nat} (q : BitVec (w + v)) : q.extractLsb' v w ++ q.extractLsb' 0 v = q := by
  refine BitVec.eq_of_getLsbD_eq fun i hi => ?_
  rw [BitVec.getLsbD_append]
  by_cases hv : i < v
  · simp [hv]
  · have hw : i - v < w := by omega
    simp [hv, hw, Nat.add_sub_cancel' (Nat.le_of_not_lt hv)]

theorem quad_bytes (q : Quad) :
    quad (q.extractLsb' 24 8) (q.extractLsb' 16 8) (q.extractLsb' 8 8) (q.extractLsb' 0 8) = q := by
  have hpart (a b : Nat) (hab : b + 8 ≤ 16) : q.extractLsb' (a + b) 8 = (q.extractLsb' a 16).extractLsb' b 8 := by
    refine BitVec.eq_of_getLsbD_eq fun i hi => ?_
    have hin : b + i < 16 := by omega
    simp [hi, hin, Nat.add_assoc]
  rw [quad, hpart 16 8 (by omega), hpart 16 0 (by omega), hpart 0 8 (by omega), hpart 0 0 (by omega), half_bytes,
    half_bytes]
  exact append_extractLsb' (w := 16) (v := 16) q

/-! ### Load items -/

theorem loadItems_bytes (items : List LoadItem) : loadItems (items.flatMap LoadItem.bytes) = some items := by
  induction items with
  | nil => rfl
  | cons i rest ih =>
    show (loadItems (rest.flatMap LoadItem.bytes)).map (i :: ·) = _
    rw [ih]
    rfl

theorem bytes_loadItems : ∀ {bytes : List Byte} {items : List LoadItem}, loadItems bytes = some items →
    items.flatMap LoadItem.bytes = bytes
  | [], items, h => by
    rw [← Option.some.inj h]
    rfl
  | k :: b1 :: b2 :: b3 :: b4 :: b5 :: b6 :: b7 :: b8 :: b9 :: rest, items, h => by
    obtain ⟨tail, htail, rfl⟩ := Option.map_eq_some_iff.mp (show (loadItems rest).map _ = some items from h)
    show LoadItem.bytes ⟨k, b1, b2, b3, b4, b5, b6, b7, b8, b9⟩ ++ tail.flatMap LoadItem.bytes = _
    rw [bytes_loadItems htail]
    rfl

/-- A request whose payload is written reads back (R178). -/
theorem decode_encodeRequest {i : Instr} {p : List Byte} (hitems : ∀ src tag id items, i = .formatLoad src tag id items →
    items.length < 256) (h : encodeRequest i = some p) :
    ∃ src, requestSource i = some src ∧ decodeRequest src p = some i := by
  cases i with
  | formatLoad src tag id items =>
    have hlen : (BitVec.ofNat 8 items.length).toNat = items.length :=
      (BitVec.toNat_ofNat ..).trans (Nat.mod_eq_of_lt (hitems src tag id items rfl))
    refine ⟨src, rfl, ?_⟩
    rw [← Option.some.inj h]
    show (match loadItems (items.flatMap LoadItem.bytes) with
      | some items' => if items'.length = (BitVec.ofNat 8 items.length).toNat then
          some (Instr.formatLoad src tag id items') else none
      | none => none) = _
    rw [loadItems_bytes]
    exact if_pos hlen.symm
  | _ =>
    first
      | contradiction
      | (rw [← Option.some.inj h]
         refine ⟨_, rfl, ?_⟩
         show some _ = some _
         simp only [half_bytes, quad_bytes])

theorem eq_ofNat_of_toNat {b : Byte} {n : Nat} (h : b.toNat = n) : b = BitVec.ofNat 8 n := by
  rw [← h, BitVec.ofNat_toNat, BitVec.setWidth_eq]

/-- A load that is read is the one that was written. -/
theorem encode_decodeLoad {src code tag : Byte} {args : List Byte} {i : Instr} (hn : code.toNat = 6)
    (h : decodeRequest src (code :: tag :: args) = some i) :
    encodeRequest i = some (code :: tag :: args) ∧ requestSource i = some src := by
  rw [eq_ofNat_of_toNat hn] at h ⊢
  match args, h with
  | id :: count :: rest, h =>
    have h : (match loadItems rest with
      | some items => if items.length = count.toNat then some (Instr.formatLoad src tag id items) else none
      | none => none) = some i := h
    split at h
    · next items hitems =>
      split at h
      · next hcount =>
        rw [← Option.some.inj h]
        refine ⟨?_, rfl⟩
        rw [encodeRequest, bytes_loadItems hitems, ← eq_ofNat_of_toNat hcount.symm]
        rfl
      · contradiction
    · contradiction

/-- A request that is read is the one that was written, but a load: for a code and a number of arguments the request
table has at most one row. The table's one match over code and arguments is too large to be split at once, so the
arguments are counted first. -/
theorem encode_decodeFixed {src code tag : Byte} {args : List Byte} {i : Instr} (h6 : code.toNat ≠ 6)
    (h : decodeRequest src (code :: tag :: args) = some i) :
    encodeRequest i = some (code :: tag :: args) ∧ requestSource i = some src := by
  unfold decodeRequest at h
  dsimp only at h
  generalize hn : code.toNat = n at h h6
  have hrow : n < 24 ∨ ∃ m, n = m + 24 := by
    rcases Nat.lt_or_ge n 24 with hlt | hge
    · exact .inl hlt
    · exact .inr ⟨n - 24, by omega⟩
  rcases args with _ | ⟨a1, _ | ⟨a2, _ | ⟨a3, _ | ⟨a4, _ | ⟨a5, _ | ⟨a6, _ | ⟨a7, _ | ⟨a8, _ | ⟨a9, _ | ⟨a10, _ | ⟨a11,
    _ | ⟨a12, _ | ⟨a13, _ | ⟨a14, _ | ⟨a15, _ | ⟨a16, rest⟩⟩⟩⟩⟩⟩⟩⟩⟩⟩⟩⟩⟩⟩⟩⟩
  all_goals
    rcases hrow with hlt | ⟨m, rfl⟩
    · interval_cases n
      all_goals
        first
        | contradiction
        | (rw [eq_ofNat_of_toNat hn, ← Option.some.inj h]
           refine ⟨?_, rfl⟩
           simp only [encodeRequest, halfBytes_half, quadBytes_quad]
           rfl)
    · contradiction

theorem encode_decodeRequest {src : Byte} {p : List Byte} {i : Instr} (h : decodeRequest src p = some i) :
    encodeRequest i = some p ∧ requestSource i = some src := by
  match p, h with
  | code :: tag :: args, h =>
    by_cases h6 : code.toNat = 6
    · exact encode_decodeLoad h6 h
    · exact encode_decodeFixed h6 h

/-- Settles O3: both directions, field by field. A load's items are counted in a byte, which 23 fit. -/
theorem requestPayloadReadsBack : Obligations.RequestPayloadReadsBack := by
  refine ⟨fun i p hwf hp => decode_encodeRequest (fun src tag id items hi => ?_) hp,
    fun src p i h => encode_decodeRequest h⟩
  subst hi
  simp only [WellFormed, fieldsOccur, Bool.and_eq_true, decide_eq_true_eq] at hwf
  omega

end Sys2Proof.Machine

/-! ## Every command's deeds -/

namespace Sys2Proof.Machine

/-! ### The owners of the requests -/

/-- What an owner answers: its deeds and a response of at most so many parts. -/
structure Serves (n : Nat) (s : State) (out : State × Reply) : Prop where
  deeds : s.Deeds out.1
  parts : out.2.parts.length ≤ n

/-- An owner that changes nothing. -/
theorem serves_still (s : State) (r : Reply) (h : r.parts.length ≤ 1 := by decide) : Serves 1 s (s, r) := ⟨.refl, h⟩

theorem State.store_deeds (st : Store) (s : State) : s.Deeds { s with store := st } := .single (.store st s)

/-- A change of the store by CHANNEL_SET leaves the rest (R21). -/
theorem channelSetOwner_serves (a : ChannelArgs) (s : State) : Serves 1 s (channelSetOwner a s) := by
  unfold channelSetOwner
  split
  · exact serves_still s _
  · split
    · exact serves_still s _
    · split
      · exact serves_still s _
      · split
        · exact serves_still s _
        · split
          · exact serves_still s _
          · split
            · exact serves_still s _
            · exact ⟨s.store_deeds _, Nat.le_refl _⟩

theorem State.chkInputSet_works (i : Fin 16) (s : State) : s.Works (s.chkInputSet i) := by
  unfold State.chkInputSet
  dsimp only
  split
  · refine .trans ?_ (State.setChk_works i _ _)
    exact State.setReg_works _ s
  · exact s.setChk_works i _

theorem inputSetOwner_serves (a : InputArgs) (s : State) : Serves 1 s (inputSetOwner a s) := by
  unfold inputSetOwner
  split
  · exact serves_still s _
  · split
    · exact serves_still s _
    · split
      · exact serves_still s _
      · split
        · exact serves_still s _
        · split
          · exact serves_still s _
          · split
            · exact serves_still s _
            · exact ⟨(s.chkInputSet_works _).deeds.trans (State.store_deeds _ _), Nat.le_refl _⟩

theorem mapSetOwner_serves (a : MapArgs) (s : State) : Serves 1 s (mapSetOwner a s) := by
  unfold mapSetOwner
  split
  · exact serves_still s _
  · split
    · exact serves_still s _
    · split
      · exact serves_still s _
      · split
        · exact serves_still s _
        · exact ⟨s.store_deeds _, Nat.le_refl _⟩

theorem State.losePosition_deeds (s : State) : s.Deeds s.losePosition :=
  .head (.position _ s fun _ => Nat.zero_le _) (State.chkLosePosition_works _).deeds

theorem State.applySettings_deeds (new : Settings) (ids : List (Fin 16)) (s : State) :
    s.Deeds (s.applySettings new ids) := by
  unfold State.applySettings
  dsimp only
  split
  · exact (s.store_deeds _).trans (State.losePosition_deeds _)
  · exact s.store_deeds _

theorem settingsSetOwner_serves (a : SettingsArgs) (s : State) : Serves 1 s (settingsSetOwner a s) := by
  unfold settingsSetOwner
  split
  · exact serves_still s _
  · split
    · exact serves_still s _
    · split
      · exact ⟨s.applySettings_deeds _ _, Nat.le_refl _⟩
      · split
        · exact serves_still s _
        · exact ⟨s.applySettings_deeds _ _, Nat.le_refl _⟩

theorem formatOpenOwner_serves (id : Byte) (s : State) : Serves 1 s (formatOpenOwner id s) := by
  unfold formatOpenOwner
  split
  · exact serves_still s _
  · split
    · exact serves_still s _
    · exact ⟨(s.setFormat_works _ _).deeds, Nat.le_refl _⟩

theorem formatEraseOwner_serves (id : Byte) (s : State) : Serves 1 s (formatEraseOwner id s) := by
  unfold formatEraseOwner
  split
  · exact serves_still s _
  · split
    · exact serves_still s _
    · exact ⟨(s.setFormat_works _ _).deeds, Nat.le_refl _⟩

theorem formatLoadOwner_serves (id : Byte) (items : List LoadItem) (s : State) :
    Serves 1 s (formatLoadOwner id items s) := by
  unfold formatLoadOwner
  split
  · exact serves_still s _
  · dsimp only
    split
    · exact serves_still s _
    · split
      · exact serves_still s _
      · split
        · exact serves_still s _
        · split
          · exact serves_still s _
          · exact ⟨(s.setFormat_works _ _).deeds, Nat.le_refl _⟩

theorem formatCommitOwner_serves (id : Byte) (sum : Half) (s : State) : Serves 1 s (formatCommitOwner id sum s) := by
  unfold formatCommitOwner
  split
  · exact serves_still s _
  · dsimp only
    split
    · exact serves_still s _
    · split
      · exact ⟨s.choose_works.deeds, Nat.le_refl _⟩
      · split
        · exact ⟨s.choose_works.deeds, Nat.le_refl _⟩
        · split
          · exact ⟨(s.setFormat_works _ _).deeds, Nat.le_refl _⟩
          · exact ⟨(s.setFormat_works _ _).deeds, Nat.le_refl _⟩

theorem formatReadOwner_serves (id page : Byte) (s : State) : Serves 1 s (formatReadOwner id page s) := by
  unfold formatReadOwner
  split
  · exact serves_still s _
  · exact serves_still s _ (Nat.le_refl _)

theorem lotAddOwner_serves (a : LotArgs) (s : State) : Serves 1 s (lotAddOwner a s) := by
  unfold lotAddOwner
  split
  · exact serves_still s _
  · split
    · exact serves_still s _
    · dsimp only
      split
      · exact serves_still s _
      · split
        · exact serves_still s _
        · split
          · exact serves_still s _
          · split
            · exact serves_still s _
            · next hroom =>
              refine ⟨(s.setLots_acts _ fun _ => ?_).deeds, Nat.le_refl _⟩
              rw [List.length_append]
              exact Nat.lt_of_not_le hroom

theorem lotCancelOwner_acts (id : Half) (makeUp : Byte) (s : State) : s.Acts (lotCancelOwner id makeUp s).1 := by
  unfold lotCancelOwner
  dsimp only
  split
  · exact .refl
  · split
    · exact s.setLots_acts _ fun h => (List.length_filter_le _ _).trans h
    · split
      · exact (s.writeLot_acts _ _).trans (State.endLot_acts _ 0 _)
      · exact s.writeLot_acts _ _
    · exact s.writeLot_acts _ _

theorem lotCancelOwner_serves (id : Half) (makeUp : Byte) (s : State) : Serves 1 s (lotCancelOwner id makeUp s) := by
  refine ⟨(lotCancelOwner_acts id makeUp s).deeds, ?_⟩
  unfold lotCancelOwner
  dsimp only
  split
  · exact Nat.le_refl _
  · split
    · exact Nat.le_refl _
    · split <;> exact Nat.le_refl _
    · exact Nat.le_refl _

theorem lotReadOwner_serves (selector : Byte) (id : Half) (place : Byte) (s : State) :
    Serves 1 s (lotReadOwner selector id place s) := by
  unfold lotReadOwner
  split
  · exact serves_still s _
  · split
    · exact serves_still s _
    · exact serves_still s _ (Nat.le_refl _)

/-- REG's start: the trim is 0 with new settings in force, or stays with the old ones (R51). -/
theorem State.regStart_deeds (f : Format) (runClass : Nat) (s : State) : s.Deeds (s.regStart f runClass) := by
  unfold State.regStart
  dsimp only
  refine .trans ?_ (State.setReg_works _ _).deeds
  refine .trans ?_ (State.placeOutbound_works _ _).deeds
  split
  · exact .refl
  · exact .single (.register _ s rfl (by simp))

theorem State.start_deeds (l : Lot) (s : State) : s.Deeds (s.start l) := by
  have hclass : (s.setLine .run .none).Acts
      { s.setLine .run .none with lot := { s.lot with runClass := some (s.format l.format).sizeClass } } :=
    .single (.lots { s.lot with runClass := some (s.format l.format).sizeClass } s.trq (s.setLine .run .none) id id)
  refine .trans (.trans ?_ (State.regStart_deeds (s.format l.format) _ _))
    ((State.placeDrive_works .run _).trans (State.lineNotice_works .idle _)).deeds
  exact .head (.line .run .none s) hclass.deeds

theorem lineStartOwner_serves (s : State) : Serves 1 s (lineStartOwner s) := by
  unfold lineStartOwner
  split
  · exact serves_still s _ (Nat.le_refl _)
  · split
    · exact serves_still s _ (Nat.le_refl _)
    · split
      · exact serves_still s _ (Nat.le_refl _)
      · exact ⟨s.start_deeds _, Nat.le_refl _⟩

theorem State.purgeRecord_acts (s : State) (r : Record) : s.Acts (s.purgeRecord r) := by
  unfold State.purgeRecord
  refine .trans ?_ (State.setTrq_acts _ _)
  refine .trans ?_ (State.chkPurge_works _ _).acts
  refine (s.writeLot_acts r.withdrawn.lot fun l => l.purge r.withdrawn).trans (State.Works.acts ?_)
  exact State.setReg_works _ _

theorem State.purge_acts (s : State) : s.Acts s.purge :=
  (State.foldl_acts State.purgeRecord_acts s.trq.queue s).trans
    (State.setLots_acts _ _ fun h => (List.length_map _).trans_le h)

theorem endAll_acts : ∀ (keys : List LotKey) (skip ended : Nat) (s : State), s.Acts (endAll keys skip ended s).1
  | [], _, _, _ => .refl
  | k :: rest, skip, ended, s => (s.endLot_acts k skip).trans (endAll_acts rest _ (ended + 1) _)

theorem lineClearOwner_serves (s : State) : Serves 1 s (lineClearOwner s) := by
  unfold lineClearOwner
  split
  · exact serves_still s _
  · refine ⟨?_, Nat.le_refl _⟩
    refine .trans ?_ (State.lineNotice_works .safe _).deeds
    refine .trans ?_ (.single (.line .idle _ _))
    refine .trans ?_ (State.settle_works _).deeds
    exact (s.purge_acts.trans (endAll_acts s.purge.endingKeys 0 0 _)).deeds

theorem State.resetBlocks_deeds (s : State) : s.Deeds s.resetBlocks := by
  have hlots : s.Acts { s with lot := LotUnit.reset, trq := { s.trq with queue := [] } } :=
    .single (.lots _ _ s (fun _ => Nat.zero_le _) fun _ => Nat.zero_le _)
  refine .trans ?_ (.single (.register _ _ rfl (by exact Iff.rfl)))
  exact (hlots.trans ((State.camClear_works _).trans (State.chkReset_works _)).acts).deeds

theorem lineResetOwner_serves (s : State) : Serves 1 s (lineResetOwner s) := by
  unfold lineResetOwner
  split
  · exact serves_still s _
  · refine ⟨?_, Nat.le_refl _⟩
    refine .trans (s.resetBlocks_deeds.trans (.single (.line .idle .none _))) ?_
    exact ((State.placeOutbound_works _ _).trans (State.lineNotice_works _ _)).deeds

theorem manualSetOwner_works (channel level : Byte) (s : State) : s.Works (manualSetOwner channel level s).1 := by
  unfold manualSetOwner
  split
  · exact .refl
  · split
    · exact .refl
    · split
      · exact .refl
      · split
        · exact .refl
        · exact (s.placeOutbound_works _).trans (State.setCam_works _ _ _)

theorem manualSetOwner_serves (channel level : Byte) (s : State) : Serves 1 s (manualSetOwner channel level s) := by
  refine ⟨(manualSetOwner_works channel level s).deeds, ?_⟩
  unfold manualSetOwner
  split
  · exact Nat.le_refl _
  · split
    · exact Nat.le_refl _
    · split
      · exact Nat.le_refl _
      · split <;> exact Nat.le_refl _

theorem statusReadOwner_serves (s : State) : Serves 2 s (statusReadOwner s) := by
  have hflags : s.Deeds { s with reg := { s.reg with lost := false }, rif := { s.rif with linkDownFlag := false } } :=
    (State.setReg_works { s.reg with lost := false } s).deeds.trans (.single (.wire _ _ rfl id (Nat.le_refl _) rfl))
  exact ⟨hflags, Nat.le_refl _⟩

theorem countersReadOwner_serves (groups clear : Byte) (s : State) : Serves 1 s (countersReadOwner groups clear s) := by
  have hclear (ids : List (Fin 38)) (v : Vector Nat 38) (c : Fin 38) : (clearCounters ids v).get c ≤ v.get c := by
    induction ids generalizing v with
    | nil => exact Nat.le_refl _
    | cons d rest ih =>
      refine (ih (v.set d 0)).trans ?_
      rw [set_get]
      split
      · exact Nat.zero_le _
      · exact Nat.le_refl _
  unfold countersReadOwner
  dsimp only
  split
  · exact serves_still s _
  · split
    · exact ⟨.single (.counters _ s (hclear _ _)), Nat.le_refl _⟩
    · exact serves_still s _ (Nat.le_refl _)

theorem logClearOwner_serves (sequence : Quad) (s : State) : Serves 1 s (logClearOwner sequence s) := by
  unfold logClearOwner
  dsimp only
  split
  · exact serves_still s _ (Nat.le_refl _)
  · split
    · exact ⟨.single (.clearLog s), Nat.le_refl _⟩
    · exact serves_still s _ (Nat.le_refl _)

/-! ### Results in parts (R178) -/

/-- A cut gives no more parts than R178 counts. -/
theorem cutParts_length_le (n : Nat) (results : List Byte) : (cutParts n results).length ≤ partCount results.length := by
  induction n generalizing results with
  | zero => exact Nat.le_max_left _ _
  | succ n ih =>
    unfold cutParts
    split
    · exact Nat.le_max_left _ _
    · next hlong =>
      have hrest := ih (results.drop Config.partBytes)
      rw [List.length_drop] at hrest
      rw [List.length_cons]
      unfold partCount at hrest ⊢
      simp only [Config.partBytes] at hrest hlong ⊢
      omega

theorem nibblePairs_length (n : Nat) (l : List (Fin 16)) : (nibblePairs n l).length = n := by
  fun_induction nibblePairs n l <;> simp_all

theorem padTo_length (n : Nat) (l : List Byte) : (padTo n l).length = n := by
  rw [padTo, List.length_take, List.length_append, List.length_replicate]
  omega

theorem LotKey.bytes_length (k : LotKey) : k.bytes.length = 3 := by
  simp [LotKey.bytes, bigEndian_length]

theorem bigEndianInt_length (n : Nat) (x : Int) : (bigEndianInt n x).length = n := bigEndian_length n _

/-- A blank record takes 57 bytes (R178). -/
theorem Record.bytes_length (r : Record) : r.bytes.length = 57 := by
  simp only [Record.bytes, List.length_append, bigEndian_length, bigEndianInt_length, LotKey.bytes_length,
    nibblePairs_length, padTo_length]

/-- A fault record takes 15 bytes (R178). -/
theorem FaultRecord.bytes_length (r : FaultRecord) : r.bytes.length = 15 := by
  have hdetail : r.detail.bytes.length = 4 := by
    cases r.detail with
    | number n => exact bigEndianInt_length 4 n
    | key k => simp [Detail.bytes, LotKey.bytes_length]
  simp only [FaultRecord.bytes, List.length_append, bigEndian_length, hdetail]

/-- Records of one length, one behind the other. -/
theorem flatMap_length_const {α : Type} {n : Nat} {f : α → List Byte} (h : ∀ a, (f a).length = n) (l : List α) :
    (l.flatMap f).length = n * l.length := by
  induction l with
  | nil => rfl
  | cons a rest ih =>
    rw [List.flatMap_cons, List.length_append, h, ih, List.length_cons]
    ring

theorem trackBytes_length (s : State) : (trackBytes s).length = 8 + 57 * s.trq.queue.length := by
  simp only [trackBytes, List.length_append, bigEndian_length, flatMap_length_const Record.bytes_length]

theorem logBytes_length (s : State) (first : Nat) : (logBytes s first).length = 7 + 15 * (s.logFrom first).length := by
  simp only [logBytes, List.length_append, bigEndian_length, flatMap_length_const FaultRecord.bytes_length]

theorem trackReadOwner_serves (s : State) : Serves (trackParts s) s (trackReadOwner s) :=
  ⟨.refl, (cutParts_length_le 8 _).trans_eq (congrArg partCount (trackBytes_length s))⟩

theorem logReadOwner_serves (first : Quad) (s : State) : Serves (logParts first s) s (logReadOwner first s) :=
  ⟨.refl, (cutParts_length_le 2 _).trans_eq (congrArg partCount (logBytes_length s first.toNat))⟩

/-! ### Requests -/

/-- The owner of every request answers with its deeds and no more parts than were reserved. -/
theorem Service.owner_serves {i : Instr} {v : Service} (h : service i = some v) (s : State) (n : Nat) :
    Serves (v.parts s) (s.serving n) (v.owner (s.serving n)) := by
  cases i with
  | channelSet => exact Option.some.inj h ▸ channelSetOwner_serves _ _
  | inputSet => exact Option.some.inj h ▸ inputSetOwner_serves _ _
  | mapSet => exact Option.some.inj h ▸ mapSetOwner_serves _ _
  | settingsSet => exact Option.some.inj h ▸ settingsSetOwner_serves _ _
  | formatOpen => exact Option.some.inj h ▸ formatOpenOwner_serves _ _
  | formatLoad => exact Option.some.inj h ▸ formatLoadOwner_serves _ _ _
  | formatCommit => exact Option.some.inj h ▸ formatCommitOwner_serves _ _ _
  | formatErase => exact Option.some.inj h ▸ formatEraseOwner_serves _ _
  | formatRead => exact Option.some.inj h ▸ formatReadOwner_serves _ _ _
  | lotAdd => exact Option.some.inj h ▸ lotAddOwner_serves _ _
  | lotCancel => exact Option.some.inj h ▸ lotCancelOwner_serves _ _ _
  | lotRead => exact Option.some.inj h ▸ lotReadOwner_serves _ _ _ _
  | lineStart => exact Option.some.inj h ▸ lineStartOwner_serves _
  | lineStop =>
    exact Option.some.inj h ▸ (⟨(State.stop_works .request _).deeds, Nat.le_refl 1⟩ : Serves 1 _ (lineStopOwner _))
  | lineHalt =>
    exact Option.some.inj h ▸ (⟨(State.halt_works .request _).deeds, Nat.le_refl 1⟩ : Serves 1 _ (lineHaltOwner _))
  | lineClear => exact Option.some.inj h ▸ lineClearOwner_serves _
  | lineReset => exact Option.some.inj h ▸ lineResetOwner_serves _
  | manualSet => exact Option.some.inj h ▸ manualSetOwner_serves _ _ _
  | statusRead => exact Option.some.inj h ▸ statusReadOwner_serves _
  | trackRead => exact Option.some.inj h ▸ (trackReadOwner_serves (s.serving n) : Serves (trackParts s) _ _)
  | countersRead => exact Option.some.inj h ▸ countersReadOwner_serves _ _ _
  | logRead => exact Option.some.inj h ▸ (logReadOwner_serves _ (s.serving n) : Serves (logParts _ s) _ _)
  | logClear => exact Option.some.inj h ▸ logClearOwner_serves _ _
  | _ => contradiction

end Sys2Proof.Machine

/-! ## What every command runs, said once -/

namespace Sys2Proof.Machine

/-! ### The pieces of a command -/

/-- One change that the ring interface makes beside the work of the blocks. -/
inductive State.Passing : State → State → Prop
  | wire (r : Rif) (s : State) (hown : r.own = s.rif.own) (hout : r.outbound.length ≤ s.rif.outbound.length)
      (hmgmt : r.management.length ≤ s.rif.management.length) (hreserved : r.reserved = s.rif.reserved) :
      Passing s { s with rif := r }
  | count (c : Fin 38) (s : State) : Passing s (s.bump c)
  | linkDown (s : State) : Passing s (s.raise .linkDown .none (.number 0))

abbrev State.Passings : State → State → Prop := Relation.ReflTransGen State.Passing

/-- The work of the blocks that a command asks for, with the request that the command carries. -/
inductive State.Piece (request : Option Instr) : State → State → Prop
  | sample (count time : Nat) (s : State) : Piece request s (s.takeSample count time)
  | edge (src : Byte) (point : Nat) (level : InLevel) (count : Nat) (s : State) :
      Piece request s (s.takeEdge src point level count)
  | motionLost (loaded : Nat) (s : State) : Piece request s (s.motionLost loaded)
  | serve {i : Instr} {v : Service} (hrequest : request = some i) (hv : service i = some v) (s : State) :
      Piece request s (v.run s)
  | undecoded (src : Byte) (payload : List Byte) (s : State) : Piece request s ((undecodedService src payload).run s)

/-- The work of a command: what the ring interface does, and between it one piece of the blocks' work at most. -/
inductive State.Row (request : Option Instr) (s t : State) : Prop
  | passings (h : s.Passings t)
  | piece {u v : State} (hbefore : s.Passings u) (hpiece : State.Piece request u v) (hafter : v.Passings t)

theorem State.Piece.row {i : Option Instr} {s t : State} (h : State.Piece i s t) : State.Row i s t := .piece .refl h .refl

theorem State.Row.before {i : Option Instr} {s t u : State} (h : s.Passings t) (h' : State.Row i t u) :
    State.Row i s u := by
  cases h' with
  | passings hrest => exact .passings (h.trans hrest)
  | piece hbefore hpiece hafter => exact .piece (h.trans hbefore) hpiece hafter

theorem State.Row.after {i : Option Instr} {s t u : State} (h : State.Row i s t) (h' : t.Passings u) :
    State.Row i s u := by
  cases h with
  | passings hrest => exact .passings (hrest.trans h')
  | piece hbefore hpiece hafter => exact .piece hbefore hpiece (hafter.trans h')

/-- What every change of the ring interface keeps is kept. -/
theorem State.Passings.keeps {P : State → Prop} (h : ∀ s t, State.Passing s t → P s → P t) {s t : State}
    (hst : s.Passings t) (hs : P s) : P t := by
  induction hst with
  | refl => exact hs
  | tail _ hc ih => exact h _ _ hc ih

/-- What every change of the ring interface and every piece keep is kept. -/
theorem State.Row.keeps {i : Option Instr} {P : State → Prop} (hpassing : ∀ s t, State.Passing s t → P s → P t)
    (hpiece : ∀ s t, State.Piece i s t → P s → P t) {s t : State} (hst : State.Row i s t) (hs : P s) : P t := by
  cases hst with
  | passings h => exact h.keeps hpassing hs
  | piece hbefore h hafter => exact hafter.keeps hpassing (hpiece _ _ h (hbefore.keeps hpassing hs))

theorem State.heard_passings (s : State) : s.Passings s.heard :=
  .single (.wire _ s rfl (Nat.le_refl _) (Nat.le_refl _) rfl)

theorem State.bump_passings (c : Fin 38) (s : State) : s.Passings (s.bump c) := .single (.count c s)

theorem State.bumpIf_passings (p : Bool) (c : Fin 38) (s : State) : s.Passings (s.bumpIf p c) := by
  cases p
  · exact .refl
  · exact s.bump_passings c

theorem State.forward_passings (bytes : List Byte) (s : State) : s.Passings (s.forward bytes) := by
  obtain ⟨hout, hmgmt⟩ := Rif.forwardFrame_length s.rif bytes
  exact .single (.wire _ s (by simp) hout hmgmt (by simp))

theorem Rif.finish_passings (n : Nat) (s : State) : s.Passings { s with rif := s.rif.finish n } := by
  unfold Rif.finish
  split
  · exact .refl
  · obtain ⟨fwd, out, mgmt, tx, mark, h, -, hout, hmgmt, -⟩ := Rif.arbitrate_cases
      { s.rif with tx := .idle, partialBytes := if s.rif.linkUp then n else 0 }
    rw [h]
    exact .single (.wire _ s rfl hout.length_le hmgmt.length_le rfl)

theorem State.loseSignal_passings (cut : Bool) (s : State) : s.Passings (s.loseSignal cut) := by
  unfold State.loseSignal
  split
  · refine .trans (.trans ?_ (State.bumpIf_passings _ _ _)) (.single (.linkDown _))
    exact .single (.wire _ s rfl (Nat.le_refl _) (Nat.le_refl _) rfl)
  · exact .refl

theorem State.cutShort_passings (cause : CutCause) (s : State) : s.Passings (s.cutShort cause) := by
  unfold State.cutShort
  split
  · refine .trans ?_ (State.bump_passings _ _)
    exact .single (.wire _ s rfl (Nat.le_refl _) (Nat.le_refl _) rfl)
  · exact .refl

theorem State.angleCopy_row (i : Option Instr) (src : Byte) (payload : List Byte) (s : State) :
    State.Row i s (s.angleCopy src payload) := by
  unfold State.angleCopy State.takeAngle
  split
  · exact (State.Piece.sample _ _ s).row
  · exact .passings (s.bump_passings _)

/-! ### Requests that received bytes carry -/

/-- The command a payload spells is run as it (R176). -/
theorem serveRequest_decoded {src : Byte} {payload : List Byte} {i : Instr} {v : Service}
    (h : decodeRequest src payload = some i) (hv : service i = some v) (s : State) :
    serveRequest src payload s = v.run s := by
  unfold serveRequest
  rw [h]
  unfold service at hv
  split at hv
  case h_24 => contradiction
  all_goals
    rw [← Option.some.inj hv]
    rfl

theorem serveRequest_undecoded {src : Byte} {payload : List Byte} (h : decodeRequest src payload = none) (s : State) :
    serveRequest src payload s = (undecodedService src payload).run s := by
  unfold serveRequest
  rw [h]
  rfl

/-- Only a request is read from a payload. -/
theorem decodeRequest_service {src : Byte} {payload : List Byte} {i : Instr} (h : decodeRequest src payload = some i) :
    ∃ v, service i = some v := by
  rw [← Option.isSome_iff_exists, service_isSome, (encode_decodeRequest h).1]
  rfl

theorem serveRequest_piece (src : Byte) (payload : List Byte) (s : State) :
    State.Piece (decodeRequest src payload) s (serveRequest src payload s) := by
  cases h : decodeRequest src payload with
  | none =>
    rw [serveRequest_undecoded h]
    exact .undecoded src payload s
  | some i =>
    obtain ⟨v, hv⟩ := decodeRequest_service h
    rw [serveRequest_decoded h hv]
    exact .serve rfl hv s

/-- A frame that has passed its check: only a request to the part is served (R171). -/
theorem State.handleFrame_row {i : Option Instr} {dst src kind : Byte} {payload : List Byte} (bytes : List Byte)
    {s : State} (hi : dst = s.rif.own → kind = kindRequest → decodeRequest src payload = i) :
    State.Row i s (s.handleFrame dst src kind payload bytes) := by
  by_cases hsrc : src = s.rif.own
  · rw [State.handleFrame, if_pos hsrc]
    exact .passings .refl
  · rw [State.handleFrame, if_neg hsrc]
    by_cases hdst : dst = s.rif.own
    · rw [if_pos hdst]
      by_cases hkind : kind = kindRequest
      · rw [if_pos hkind, ← hi hdst hkind]
        exact (serveRequest_piece src payload s).row
      · rw [if_neg hkind]
        exact .passings .refl
    · rw [if_neg hdst]
      split
      · exact (State.angleCopy_row _ src payload s).after (State.forward_passings bytes _)
      · split
        · exact .piece .refl (.edge _ _ _ _ s) (State.forward_passings bytes _)
        · exact .passings (State.forward_passings bytes s)

theorem State.receive_row {i : Option Instr} {dst src kind : Byte} {payload : List Byte} (check : Half) {s : State}
    (hi : dst = s.rif.own → kind = kindRequest → decodeRequest src payload = i) :
    State.Row i s (s.receive dst src kind payload check) := by
  cases hup : s.rif.linkUp with
  | false =>
    rw [State.receive_down _ _ _ _ _ _ hup]
    exact .passings .refl
  | true =>
    rw [State.receive, if_pos hup]
    show State.Row i s (if _ then s.heard.handleFrame dst src kind payload _ else s.heard.bump ctrBadCheck)
    split
    · exact .before s.heard_passings (State.handleFrame_row _ (s := s.heard) hi)
    · exact .passings (s.heard_passings.trans (State.bump_passings _ _))

theorem State.receiveBroken_passings (s : State) : s.Passings s.receiveBroken := by
  unfold State.receiveBroken
  split
  · exact s.heard_passings.trans (s.heard.bump_passings _)
  · exact .refl

/-- A REQUEST frame to the part carries the request its payload spells. -/
theorem carried_frameReceived {own : Byte} {bytes : List Byte} {src : Byte} {payload : List Byte} {check : Half}
    (hsplit : splitFrame bytes = some (own, src, kindRequest, payload, check)) (hcut : cutByOpening bytes = false) :
    carried own (.frameReceived bytes) = decodeRequest src payload := by
  simp only [carried, hsplit, hcut, and_self, if_true]

theorem State.takeFrame_row {bytes : List Byte} {s : State} (hcut : cutByOpening bytes = false) :
    State.Row (carried s.rif.own (.frameReceived bytes)) s (s.takeFrame bytes) := by
  unfold State.takeFrame
  split
  · next hsplit =>
    refine State.receive_row _ fun hdst hkind => ?_
    subst hdst hkind
    exact (carried_frameReceived hsplit hcut).symm
  · exact .passings s.receiveBroken_passings

/-- Every command but a reset is a row. -/
theorem exec_row (i : Instr) (s : State) (h : ∀ strap, i ≠ .powerOnReset strap) :
    ∃ t, exec i s = .next t ∧ State.Row (carried s.rif.own i) s t := by
  cases hv : service i with
  | some v =>
    have hcarried : carried s.rif.own i = some i := by
      unfold service at hv
      split at hv
      case h_24 => contradiction
      all_goals rfl
    exact ⟨v.run s, exec_service hv s, (State.Piece.serve hcarried hv s).row⟩
  | none =>
    cases i with
    | powerOnReset strap => exact absurd rfl (h strap)
    | signalDetected => exact ⟨_, rfl, .passings (.single (.wire _ s rfl (Nat.le_refl _) (Nat.le_refl _) rfl))⟩
    | signalLost cut => exact ⟨_, rfl, .passings (s.loseSignal_passings cut)⟩
    | frameReceived bytes =>
      refine ⟨_, rfl, ?_⟩
      split
      · exact .passings (s.cutShort_passings _)
      · next hcut => exact State.takeFrame_row (Bool.eq_false_iff.mpr hcut)
    | angle src count time check => exact ⟨_, rfl, State.receive_row check fun _ hkind => absurd hkind (by decide)⟩
    | motionTimerExpiry =>
      refine ⟨_, rfl, ?_⟩
      split
      · exact (State.Piece.motionLost _ s).row
      · exact .passings .refl
    | edge src point level count check => exact ⟨_, rfl, State.receive_row check fun _ hkind => absurd hkind (by decide)⟩
    | transmitDone n => exact ⟨_, rfl, .passings (Rif.finish_passings n s)⟩
    | requestUndecoded src payload => exact ⟨_, rfl, (serveRequest_piece src payload s).row⟩
    | frameCutShort cause => exact ⟨_, rfl, .passings (s.cutShort_passings cause)⟩
    | _ => contradiction

/-- A law that a reset establishes and every part of a row keeps is kept by every step. -/
theorem step_keeps {P : State → Prop} (hpending : ∀ s l, P s → P { s with pending := l })
    (hreset : ∀ strap free l, P (State.powerOn strap free l)) (hpassing : ∀ s t, State.Passing s t → P s → P t)
    (hpiece : ∀ i s t, State.Piece i s t → P s → P t) {s t : State} (hs : P s) (h : step s = .next t) : P t := by
  unfold step at h
  split at h
  · rw [← Host.Outcome.next.inj h]
    exact hs
  · next c rest _ =>
    by_cases hc : ∃ strap, c = .powerOnReset strap
    · obtain ⟨strap, rfl⟩ := hc
      rw [← Host.Outcome.next.inj h]
      exact hreset strap _ _
    · obtain ⟨u, hu, hrow⟩ := exec_row c { s with pending := rest } fun strap he => hc ⟨strap, he⟩
      rw [hu] at h
      rw [← Host.Outcome.next.inj h]
      exact hrow.keeps hpassing (hpiece _) (hpending s rest hs)

end Sys2Proof.Machine

/-! ## Settled: every command answers; the bounds, the log and the trim; power-on -/

namespace Sys2Proof.Machine

/-! ### Every piece is a row of tasks -/

theorem State.heard_tasks (s : State) : s.Tasks s.heard :=
  .single (.deed (.wire _ s rfl id (Nat.le_refl _) rfl))

/-- A request taken whose owner serves within its reservation (R176). -/
theorem takeRequest_tasks {src code tag : Byte} {parts : Nat} {owner : State → State × Reply} {s : State}
    (h : Serves parts (s.serving parts) (owner (s.serving parts))) :
    s.Tasks (takeRequest src code tag parts owner s) := by
  refine takeRequest_keeps s.Tasks src code tag parts owner s .refl s.heard_tasks ?_ ?_
  · exact s.heard_tasks.trans (State.bump_works _ _).deeds.tasks
  · intro htakes
    have hroom : parts ≤ 16 - (s.rif.management.length + s.rif.reserved) := htakes.2.2
    have hreserve : s.Tasks (s.serving parts) := .single (.wire _ s rfl id fun hs => by
      show s.rif.management.length + (s.rif.reserved + parts) ≤ 16
      omega)
    have hreserved := h.deeds.reserved
    generalize owner (s.serving parts) = out at h hreserved
    obtain ⟨hown, -⟩ := Rif.respond_keeps out.1.rif src code tag out.2.status 1 out.2.parts
    obtain ⟨hmgmt, hout⟩ := Rif.respond_length out.1.rif src code tag out.2.status 1 out.2.parts
    have hparts := h.parts
    refine (hreserve.trans h.deeds.tasks).trans (.single (.wire _ out.1 hown hout.trans fun hs => ?_))
    change out.1.rif.reserved = s.rif.reserved + parts at hreserved
    dsimp only
    omega

theorem Service.run_tasks {v : Service} {s : State} (h : Serves (v.parts s) (s.serving (v.parts s))
    (v.owner (s.serving (v.parts s)))) : s.Tasks (v.run s) := by
  unfold Service.run
  split
  · exact (takeRequest_tasks h).trans (State.settle_works _).deeds.tasks
  · exact takeRequest_tasks h

theorem State.raiseMotion_works (held raw : Nat) (step : Int) (fault : Option MotionFault) (s : State) :
    s.Works (s.raiseMotion held raw step fault) := by
  unfold State.raiseMotion
  split
  · exact .refl
  · exact .single (.raise _ _ _ _ s)
  · exact .single (.raise _ _ _ _ s)

@[simp] theorem State.raiseMotion_pos (held raw : Nat) (step : Int) (fault : Option MotionFault) (s : State) :
    (s.raiseMotion held raw step fault).pos = s.pos := (s.raiseMotion_works held raw step fault).acts.pos

@[simp] theorem State.raiseMotion_store (held raw : Nat) (step : Int) (fault : Option MotionFault) (s : State) :
    (s.raiseMotion held raw step fault).store = s.store := by
  unfold State.raiseMotion
  split
  · rfl
  · exact State.raiseAt_store _ _ _ _ s
  · exact State.raiseAt_store _ _ _ _ s

/-- A fault at a given pitch is raised alike at any position. -/
theorem State.raiseAt_at (k : FaultKind) (e : Effect) (p : Nat) (d : Detail) (q : Pos) (s : State) :
    { s with pos := q }.raiseAt k e p d = { s.raiseAt k e p d with pos := q } := by
  unfold State.raiseAt State.notice
  dsimp only
  split <;> rfl

/-- A fault is raised alike at any position of one pitch. -/
theorem State.raise_at {k : FaultKind} {e : Effect} {d : Detail} {q : Pos} {s : State} (h : q.held = s.pos.held) :
    { s with pos := q }.raise k e d = { s.raise k e d with pos := q } := by
  have hpitch : State.pitch { s with pos := q } = s.pitch := congrArg (· / Config.pitchCounts) h
  rw [State.raise, hpitch, State.raiseAt_at]
  rfl

theorem State.raiseMotion_at (held raw : Nat) (step : Int) (fault : Option MotionFault) (q : Pos) (s : State) :
    { s with pos := q }.raiseMotion held raw step fault = { s.raiseMotion held raw step fault with pos := q } := by
  unfold State.raiseMotion
  split
  · rfl
  · exact State.raiseAt_at _ _ _ _ q s
  · exact State.raiseAt_at _ _ _ _ q s

/-! ### What a sample makes of POS (R4 to R12) -/

/-- The motion fault of a sample (R6). -/
def State.motion (count : Nat) (s : State) : Option MotionFault :=
  motionFault s.running s.pos.held (nextRaw s.pos.raw (countStep s.pos.lastCount count)) (countStep s.pos.lastCount count)

/-- The speed history of a sample (R10). -/
def State.nextHistory (count time : Nat) (s : State) : List Interval :=
  if (s.motion count).isSome then []
  else addInterval s.pos.history (countStep s.pos.lastCount count) ((time + 65536 - s.pos.lastTime % 65536) % 65536)

/-- The overspeed run count at a V (R12). -/
def State.nextOverRun (v : Nat) (s : State) : Nat :=
  if s.settings.overspeed < v then min s.settings.debounce (s.pos.overRun + 1) else 0

/-- POS after stages 1 to 5 of a sample. -/
def State.nextPos (count time : Nat) (s : State) : Pos :=
  { state := s.pos.state
    raw := nextRaw s.pos.raw (countStep s.pos.lastCount count)
    held := nextHeld s.running s.pos.held (nextRaw s.pos.raw (countStep s.pos.lastCount count)) (s.motion count)
    lastCount := count
    lastTime := time
    history := s.nextHistory count time
    s := speedOf (s.nextHistory count time)
    v := cpmOf (speedOf (s.nextHistory count time))
    overRun := s.nextOverRun (cpmOf (speedOf (s.nextHistory count time)))
    timer := some s.settings.motionTimeout }

/-- The speed history holds at most eight intervals (R1, R10). -/
theorem addInterval_length {h : List Interval} (counts : Int) (time : Nat) (hh : h.length ≤ 8) :
    (addInterval h counts time).length ≤ 8 := by
  unfold addInterval
  split
  · exact hh
  · split
    · rw [List.length_append, List.length_drop, List.length_singleton]
      omega
    · exact Nat.zero_le _

/-- Whether a V brings the run count to the debounce from another value (R12). -/
def State.comesToDebounce (v : Nat) (s : State) : Bool :=
  s.settings.overspeed < v ∧ s.pos.overRun ≠ s.settings.debounce ∧ s.settings.debounce ≤ s.pos.overRun + 1

theorem State.comesToDebounce_iff (v : Nat) (s : State) : s.comesToDebounce v = true ↔
    s.settings.overspeed < v ∧ s.pos.overRun ≠ s.settings.debounce ∧ s.settings.debounce ≤ s.pos.overRun + 1 := by
  simp [State.comesToDebounce]



/-- What the overspeed test does to the run count, and when it raises its fault. -/
theorem State.overspeedTest_eq (s : State) :
    s.overspeedTest = if s.comesToDebounce s.pos.v then
        { s with pos := { s.pos with overRun := s.nextOverRun s.pos.v } }.raise .overspeed .stop (.number s.pos.v)
      else { s with pos := { s.pos with overRun := s.nextOverRun s.pos.v } } := by
  simp only [State.overspeedTest, State.nextOverRun, State.comesToDebounce_iff]
  by_cases hfast : s.settings.overspeed < s.pos.v
  · rw [if_pos hfast, if_pos hfast]
    by_cases hat : s.pos.overRun = s.settings.debounce
    · rw [if_pos hat, if_neg fun h => h.2.1 hat, hat, Nat.min_eq_left (Nat.le_succ _), ← hat]
    · rw [if_neg hat]
      by_cases hcomes : s.settings.debounce ≤ s.pos.overRun + 1
      · rw [if_pos (Nat.min_eq_left hcomes), if_pos ⟨hfast, hat, hcomes⟩]
      · rw [if_neg (by omega), if_neg fun h => hcomes h.2.2]
  · rw [if_neg hfast, if_neg hfast, if_neg fun h => hfast h.1]

/-- The overspeed test with the timer loaded behind it. -/
theorem State.overspeedTest_timer (s : State) :
    { s.overspeedTest with pos :=
        { s.overspeedTest.pos with timer := some s.overspeedTest.settings.motionTimeout } } =
      let p : Pos := { s.pos with overRun := s.nextOverRun s.pos.v, timer := some s.settings.motionTimeout }
      if s.comesToDebounce s.pos.v then { s with pos := p }.raise .overspeed .stop (.number s.pos.v)
      else { s with pos := p } := by
  rw [State.overspeedTest_eq]
  dsimp only
  split
  · have hraise (timer : Option Nat) := State.raise_at (k := .overspeed) (e := .stop) (d := .number s.pos.v)
      (q := { s.pos with overRun := s.nextOverRun s.pos.v, timer := timer }) (s := s) rfl
    rw [hraise (some s.settings.motionTimeout)]
    have hwas := hraise s.pos.timer
    dsimp only at hwas
    rw [hwas]
    simp only [State.settings, State.raise_store]
  · rfl

/-- A sample of a KNOWN position: POS moves on, then the motion fault of stage 2 is raised and OVERSPEED where the run count
comes to the debounce. -/
theorem State.measure_eq (count time : Nat) (s : State) :
    s.measure count time =
      let t := { s with pos := s.nextPos count time }.raiseMotion s.pos.held (s.nextPos count time).raw
        (countStep s.pos.lastCount count) (s.motion count)
      if s.comesToDebounce (s.nextPos count time).v then t.raise .overspeed .stop (.number (s.nextPos count time).v)
      else t := by
  have hunfold : s.measure count time =
      let u := { s.raiseMotion s.pos.held (s.nextPos count time).raw (countStep s.pos.lastCount count) (s.motion count)
        with pos := { s.nextPos count time with overRun := s.pos.overRun, timer := s.pos.timer } }
      { u.overspeedTest with pos := { u.overspeedTest.pos with timer := some u.overspeedTest.settings.motionTimeout } } := by
    unfold State.measure
    simp only [State.raiseMotion_at]
    rfl
  have hraised : (s.raiseMotion s.pos.held (s.nextPos count time).raw (countStep s.pos.lastCount count)
      (s.motion count)).store = s.store := State.raiseMotion_store _ _ _ _ s
  rw [hunfold, State.raiseMotion_at _ _ _ _ (s.nextPos count time) s]
  dsimp only
  rw [State.overspeedTest_timer]
  generalize s.raiseMotion s.pos.held (s.nextPos count time).raw (countStep s.pos.lastCount count) (s.motion count) = r
    at hraised ⊢
  simp only [State.comesToDebounce, State.nextOverRun, State.settings, hraised]
  rfl

theorem State.measure_deeds (count time : Nat) (s : State) : s.Deeds (s.measure count time) := by
  have hpos : s.Deeds { s with pos := s.nextPos count time } := by
    refine .single (.position _ s fun h => ?_)
    show (s.nextHistory count time).length ≤ 8
    unfold State.nextHistory
    split
    · exact Nat.zero_le _
    · exact addInterval_length _ _ h
  rw [State.measure_eq]
  dsimp only
  split
  · exact (hpos.trans (State.raiseMotion_works _ _ _ _ _).deeds).trans (State.raise_works _ _ _ _).deeds
  · exact hpos.trans (State.raiseMotion_works _ _ _ _ _).deeds

theorem State.takeSample_deeds (count time : Nat) (s : State) : s.Deeds (s.takeSample count time) := by
  unfold State.takeSample
  split
  · exact .single (.position _ s fun _ => Nat.zero_le _)
  · dsimp only
    split
    · exact (s.measure_deeds count time).trans (State.advance_acts _ _ _).deeds
    · exact (s.measure_deeds count time).trans (State.settle_works _).deeds

theorem State.motionLost_deeds (loaded : Nat) (s : State) : s.Deeds (s.motionLost loaded) :=
  ((s.raise_works _ _ _).deeds.trans (State.losePosition_deeds _)).trans (State.settle_works _).deeds

theorem State.Passing.tasks {s t : State} (h : s.Passing t) : s.Tasks t := by
  cases h with
  | wire r _ hown hout hmgmt hreserved => exact .single (.deed (.wire r s hown hout.trans hmgmt hreserved))
  | count c => exact (s.bump_works c).deeds.tasks
  | linkDown => exact (s.raise_works _ _ _).deeds.tasks

theorem State.Piece.tasks {i : Option Instr} {s t : State} (h : State.Piece i s t) : s.Tasks t := by
  cases h with
  | sample count time => exact (s.takeSample_deeds count time).tasks
  | edge src point level count => exact (s.takeEdge_works src point level count).deeds.tasks
  | motionLost loaded => exact (s.motionLost_deeds loaded).tasks
  | serve _ hv => exact Service.run_tasks (Service.owner_serves hv s _)
  | undecoded src payload => exact Service.run_tasks (serves_still _ _)

theorem State.Row.tasks {i : Option Instr} {s t : State} (h : State.Row i s t) : s.Tasks t :=
  h.keeps (P := s.Tasks) (fun _ _ hp hs => hs.trans hp.tasks) (fun _ _ hp hs => hs.trans hp.tasks) .refl

theorem exec_tasks (i : Instr) (s : State) (h : ∀ strap, i ≠ .powerOnReset strap) :
    ∃ t, exec i s = .next t ∧ s.Tasks t := by
  obtain ⟨t, ht, hrow⟩ := exec_row i s h
  exact ⟨t, ht, hrow.tasks⟩

/-! ### Answers and power-on -/

/-- Settles O2: a reset answers at once, and every other command is a row of tasks, none of which touches the commands
that wait. -/
theorem everyCommandAnswersNext : Obligations.EveryCommandAnswersNext := by
  intro i s
  by_cases hi : ∃ strap, i = .powerOnReset strap
  · obtain ⟨strap, rfl⟩ := hi
    exact ⟨_, rfl, rfl⟩
  · obtain ⟨t, ht, htasks⟩ := exec_tasks i s fun strap he => hi ⟨strap, he⟩
    exact ⟨t, ht, htasks.frame.1⟩

/-- Settles O1: `step` is its own match on the queue. -/
theorem stepTakesTheFrontCommand : Obligations.StepTakesTheFrontCommand := by
  refine ⟨fun _ _ _ => rfl, fun s h => ?_⟩
  rw [step, h]

theorem replicate_get {α : Type} {n : Nat} (a : α) (i : Fin n) : (Vector.replicate n a).get i = a :=
  Vector.getElem_replicate i.isLt

/-- Settles O56: a powered-on part has empty queues and tables. -/
theorem resetMeetsTheLaws : Obligations.ResetMeetsTheLaws := by
  refine ⟨fun strap free pending => ?_, rfl⟩
  have hbounded : (State.powerOn strap free pending).Bounded := by
    refine ⟨Nat.zero_le _, Nat.zero_le _, Nat.zero_le _, rfl, Nat.zero_le _, Nat.zero_le _, Nat.zero_le _, Nat.zero_le _,
      fun c => ?_⟩
    exact (replicate_get 0 c).trans_le (Nat.zero_le _)
  have hlots : (State.powerOn strap free pending).LotsOrdered := ⟨.nil, Nat.zero_le _, .nil⟩
  have hflights : (State.powerOn strap free pending).FlightsCounted :=
    ⟨fun _ hr => absurd hr List.not_mem_nil, fun _ hl => absurd hl List.not_mem_nil⟩
  exact ⟨hbounded, ⟨trivial, fun _ hr => absurd hr List.not_mem_nil, Nat.zero_le _⟩, ⟨Iff.rfl, rfl⟩, hlots, hflights, rfl,
    fun h => absurd h Bool.false_ne_true⟩

/-- The source byte of a frame is the first behind the opening and the destination (R178). -/
theorem wireFrame_source (own dst kind : Byte) (payload : List Byte) :
    (wireFrame own dst kind payload)[11]? = some own := rfl

/-- A format without content has no entries. -/
theorem Format.blank_entries (st : FormatState) : (Format.blank st).allWindows = [] ∧ (Format.blank st).allChecks = [] :=
  ⟨rfl, rfl⟩

theorem Store.reset_room : Store.reset.freeWindows = 512 ∧ Store.reset.freeChecks = 256 := by decide

/-- Settles O6: the values are those of `State.powerOn`; every other command is a row of tasks, and no task moves the own
address. -/
theorem powerOnGivesEveryBlockItsValues : Obligations.PowerOnGivesEveryBlockItsValues := by
  refine ⟨fun strap s => ⟨_, rfl, ?_⟩, fun i s t hi ht => ?_, fun f g own => ⟨wireFrame_source _ _ _ _,
    wireFrame_source _ _ _ _⟩⟩
  · have hformat (f : Fin 16) : (State.powerOn strap s.free s.pending).format f = Format.blank .empty := replicate_get _ f
    have hown : (32 + strap.setWidth 8 : Byte).toNat = 32 + strap.toNat := by
      bv_omega
    refine ⟨rfl, fun c => replicate_get _ c, fun i => replicate_get _ i, fun i => replicate_get _ i, rfl, fun f => ?_,
      Store.reset_room.1, Store.reset_room.2, rfl, rfl, fun c => replicate_get _ c, fun i => replicate_get _ i, rfl, rfl, rfl, rfl, rfl, rfl,
      fun c => replicate_get _ c, rfl, hown, rfl, rfl, rfl, rfl, rfl, rfl, rfl, rfl, rfl, rfl, rfl⟩
    rw [hformat]
    exact ⟨(Format.blank_entries .empty).1, (Format.blank_entries .empty).2, rfl⟩
  · obtain ⟨u, hu, htasks⟩ := exec_tasks i s hi
    rw [← Host.Outcome.next.inj (hu.symm.trans ht)]
    exact htasks.frame.2

/-! ### What every step keeps -/

/-- A request leaves no reservation behind (R176 step 4). -/
theorem takeRequest_reserved (src code tag : Byte) (parts : Nat) (owner : State → State × Reply) (s : State) :
    (takeRequest src code tag parts owner s).rif.reserved = s.rif.reserved :=
  takeRequest_keeps (fun t => t.rif.reserved = s.rif.reserved) src code tag parts owner s rfl rfl rfl fun _ => rfl

theorem Service.run_reserved (v : Service) (s : State) : (v.run s).rif.reserved = s.rif.reserved := by
  unfold Service.run
  split
  · exact (State.settle_works _).acts.reserved.trans (takeRequest_reserved _ _ _ _ _ s)
  · exact takeRequest_reserved _ _ _ _ _ s

theorem State.Passing.reserved {s t : State} (h : s.Passing t) : t.rif.reserved = s.rif.reserved := by
  cases h with
  | wire _ _ _ _ _ hreserved => exact hreserved
  | count => rfl
  | linkDown => simp

theorem State.Piece.reserved {i : Option Instr} {s t : State} (h : State.Piece i s t) :
    t.rif.reserved = s.rif.reserved := by
  cases h with
  | sample count time => exact (s.takeSample_deeds count time).reserved
  | edge src point level count => exact (s.takeEdge_works src point level count).acts.reserved
  | motionLost loaded => exact (s.motionLost_deeds loaded).reserved
  | serve | undecoded => exact Service.run_reserved _ s

/-- Settles O57: every task keeps the bounds with the reserved places counted, and no piece leaves a reservation. -/
theorem everyStepKeepsTheBounds : Obligations.EveryStepKeepsTheBounds := by
  intro s t hs h
  have hkeeps {s t : State} (htasks : s.Tasks t) (hreserved : t.rif.reserved = s.rif.reserved) (hs : s.Bounded) :
      t.Bounded := by
    obtain ⟨hbounds, hnone⟩ := State.bounded_iff.mp hs
    exact State.bounded_iff.mpr ⟨htasks.keeps (fun _ _ => State.Task.bounds) hbounds, hreserved.trans hnone⟩
  exact step_keeps (P := State.Bounded) (fun _ _ => id) (fun strap free l => (resetMeetsTheLaws.1 strap free l).1)
    (fun _ _ hp => hkeeps hp.tasks hp.reserved) (fun _ _ _ hp => hkeeps hp.tasks hp.reserved) hs h

/-- Settles O58: a task keeps the log ascending and the trim held. -/
theorem everyStepKeepsTheLogAndTheTrim : Obligations.EveryStepKeepsTheLogAndTheTrim := by
  refine ⟨fun s t hs h => ?_, fun s t hs h => ?_⟩
  · exact step_keeps (P := State.LogOrdered) (fun _ _ => id) (fun strap free l => (resetMeetsTheLaws.1 strap free l).2.1)
      (fun _ _ hp => hp.tasks.keeps fun _ _ => State.Task.logOrdered)
      (fun _ _ _ hp => hp.tasks.keeps fun _ _ => State.Task.logOrdered) hs h
  · exact step_keeps (P := State.TrimHeld) (fun _ _ => id) (fun strap free l => (resetMeetsTheLaws.1 strap free l).2.2.1)
      (fun _ _ hp => hp.tasks.keeps fun _ _ => State.Task.trimHeld)
      (fun _ _ _ hp => hp.tasks.keeps fun _ _ => State.Task.trimHeld) hs h

end Sys2Proof.Machine

/-! ## What the line's moves do to the wire and the channels -/

namespace Sys2Proof.Machine

/-! ### Frames placed in a row -/

/-- Frames that join the outbound queue, one behind the other. -/
def Rif.pushAll (r : Rif) (frames : List OutFrame) : Rif := frames.foldl Rif.pushOutbound r

theorem Rif.pushAll_append (r : Rif) (l m : List OutFrame) : r.pushAll (l ++ m) = (r.pushAll l).pushAll m :=
  List.foldl_append

/-- Frames join the outbound queue of a busy transmitter at the tail. -/
theorem Rif.pushAll_busy (r : Rif) (frames : List OutFrame) (h : r.tx ≠ .idle) :
    r.pushAll frames = { r with outbound := r.outbound ++ frames } := by
  induction frames generalizing r with
  | nil => simp [Rif.pushAll]
  | cons f rest ih =>
    show (r.pushOutbound f).pushAll rest = _
    rw [Rif.pushOutbound_busy r f h, ih { r with outbound := r.outbound ++ [f] } h]
    simp

theorem Rif.pushAll_length (r : Rif) (frames : List OutFrame) :
    (r.pushAll frames).outbound.length ≤ r.outbound.length + frames.length ∧
      (r.pushAll frames).management.length ≤ r.management.length := by
  induction frames generalizing r with
  | nil => exact ⟨Nat.le_refl _, Nat.le_refl _⟩
  | cons f rest ih =>
    obtain ⟨hout, hmgmt⟩ := ih (r.pushOutbound f)
    obtain ⟨hout', hmgmt'⟩ := Rif.pushOutbound_length r f
    rw [List.length_cons]
    exact ⟨hout.trans (by omega), hmgmt.trans hmgmt'⟩

theorem Rif.pushAll_keeps (r : Rif) (frames : List OutFrame) :
    (r.pushAll frames).own = r.own ∧ (r.pushAll frames).linkUp = r.linkUp ∧
      (r.pushAll frames).linkDownFlag = r.linkDownFlag ∧ (r.pushAll frames).partialBytes = r.partialBytes ∧
      (r.pushAll frames).reserved = r.reserved := by
  induction frames generalizing r with
  | nil => exact ⟨rfl, rfl, rfl, rfl, rfl⟩
  | cons f rest ih => simpa [Rif.pushAll] using ih (r.pushOutbound f)

/-! ### Entry to SAFE (R90, R150) -/

/-- The level and the safe-state frame that a channel's entry to SAFE gives (R90). -/
def State.safeLevel (s : State) (c : Fin 24) : Option Bool :=
  if (s.channel c).source = .disabled then none
  else
    match (s.channel c).safeState with
    | .off => some false
    | .on => some true
    | .hold => none

/-- The frame of an immediate level (R87). -/
def State.immediate (s : State) (c : Fin 24) (on : Bool) : OutFrame :=
  .output (s.channel c).node (s.channel c).point on true c (s.nodeCount s.pos.raw) 0

/-- A level as CAM keeps it. -/
def levelOf (on : Bool) : Level := if on then .on else .off

theorem State.safeChannel_eq (s : State) (c : Fin 24) :
    s.safeChannel c = match s.safeLevel c with
      | some on => (s.placeOutbound (s.immediate c on)).setCam c fun x => { x with level := levelOf on }
      | none => s := by
  unfold State.safeChannel State.safeLevel
  split
  · rfl
  · cases (s.channel c).safeState <;> rfl

/-- The safe-state frames of channels, in their order. -/
def State.safeFrames (s : State) (l : List (Fin 24)) : List OutFrame :=
  l.filterMap fun c => (s.safeLevel c).map (s.immediate c)

/-- A table with places changed one after another, each by its own function. -/
theorem foldl_updateAt_get {α : Type} {n : Nat} (f : Fin n → α → α) (l : List (Fin n)) (hl : l.Nodup) (v : Vector α n)
    (i : Fin n) : (l.foldl (fun v j => updateAt v j (f j)) v).get i = if i ∈ l then f i (v.get i) else v.get i := by
  induction l generalizing v with
  | nil => simp
  | cons j rest ih =>
    obtain ⟨hj, hrest⟩ := List.nodup_cons.mp hl
    rw [List.foldl_cons, ih hrest]
    by_cases hij : i = j
    · subst hij
      simp [hj, updateAt_get]
    · simp [hij, updateAt_get]

theorem updateAt_same {α : Type} {n : Nat} (v : Vector α n) (i : Fin n) : updateAt v i (fun x => x) = v :=
  Vector.set_getElem_self i.isLt

/-- A channel after entry to SAFE. -/
def State.safeChanged (s : State) (c : Fin 24) (x : CamChannel) : CamChannel :=
  { x with level := match s.safeLevel c with | some on => levelOf on | none => x.level }

/-- The channels after entry to SAFE. -/
def State.safeCam (s : State) (l : List (Fin 24)) (v : Vector CamChannel 24) : Vector CamChannel 24 :=
  l.foldl (fun v c => updateAt v c (s.safeChanged c)) v

theorem State.foldl_safeChannel (l : List (Fin 24)) (s : State) (h : s.rif.outbound.length + l.length ≤ 64) :
    l.foldl State.safeChannel s = { s with cam := s.safeCam l s.cam, rif := s.rif.pushAll (s.safeFrames l) } := by
  induction l generalizing s with
  | nil => rfl
  | cons c rest ih =>
    rw [List.length_cons] at h
    rw [List.foldl_cons, State.safeChannel_eq]
    cases hlevel : s.safeLevel c with
    | none =>
      have hsame : s.safeChanged c = fun x => x := by funext x; simp only [State.safeChanged, hlevel]
      dsimp only
      rw [ih s (by omega)]
      simp only [State.safeFrames, State.safeCam, List.filterMap_cons, List.foldl_cons, hlevel, Option.map_none, hsame,
        updateAt_same]
    | some on =>
      have hchanged : s.safeChanged c = fun x => { x with level := levelOf on } := by
        funext x; simp only [State.safeChanged, hlevel]
      dsimp only
      rw [State.placeOutbound_room _ s (by omega)]
      obtain ⟨hout, -⟩ := Rif.pushOutbound_length s.rif (s.immediate c on)
      rw [ih _ (by show (s.rif.pushOutbound (s.immediate c on)).outbound.length + rest.length ≤ 64; omega)]
      simp only [State.safeFrames, State.safeCam, List.filterMap_cons, List.foldl_cons, hlevel, Option.map_some, hchanged]
      rfl

/-- One channel after entry to SAFE. -/
theorem State.safeCam_get (s : State) (v : Vector CamChannel 24) (c : Fin 24) :
    (s.safeCam channelIds v).get c = s.safeChanged c (v.get c) := by
  refine (foldl_updateAt_get s.safeChanged channelIds (List.nodup_finRange 24) v c).trans ?_
  exact if_pos (List.mem_finRange c)

theorem channelIds_mem (c : Fin 24) : c ∈ channelIds := List.mem_finRange c

theorem inputIds_mem (i : Fin 16) : i ∈ inputIds := List.mem_finRange i

/-- Every channel cleared (R90). -/
theorem State.camClear_camChannel (s : State) (c : Fin 24) : s.camClear.camChannel c = (s.camChannel c).cleared := by
  refine (foldl_updateAt_get (fun _ => CamChannel.cleared) channelIds (List.nodup_finRange 24) s.cam c).trans ?_
  rw [if_pos (channelIds_mem c)]
  rfl

/-- The frames of a halt: DRIVE HALT first, then the safe-state frames (R150). -/
def State.haltFrames (s : State) : List OutFrame :=
  .drive s.settings.driveNode .halt :: s.safeFrames channelIds

/-- A halt taken: what it makes of the state, but for its notice (R150). -/
def State.halted (r : StopReason) (s : State) : State :=
  { s with
    sup := { s.sup with line := .safe, reason := r }
    cam := s.safeCam channelIds s.camClear.cam
    reg := { s.reg with lock := .off, matchCount := 0, missCount := 0 }
    rif := ({ s.rif with outbound := [], overrun := false } : Rif).pushAll s.haltFrames }

/-- The outbound queue that a halt has emptied has room for all its frames. -/
theorem State.halt_eq (r : StopReason) (s : State) (h : s.sup.line ≠ .safe) :
    s.halt r = (s.halted r).lineNotice s.sup.line := by
  have hdrive : ((s.setLine .safe r).emptyOutbound).placeDrive .halt = { (s.setLine .safe r).emptyOutbound with
      rif := (s.setLine .safe r).emptyOutbound.rif.pushOutbound (.drive s.settings.driveNode .halt) } :=
    State.placeOutbound_room _ _ (by decide : 0 < 64)
  have hroom : (((s.setLine .safe r).emptyOutbound.placeDrive .halt).camClear).rif.outbound.length +
      channelIds.length ≤ 64 := by
    rw [hdrive]
    have hlength := (Rif.pushOutbound_length (s.setLine .safe r).emptyOutbound.rif (.drive s.settings.driveNode .halt)).1
    exact (Nat.add_le_add_right hlength 24).trans (by decide : 0 + 1 + 24 ≤ 64)
  unfold State.halt
  rw [if_neg h]
  dsimp only
  rw [State.camSafe, State.foldl_safeChannel _ _ hroom, hdrive, State.halted, State.haltFrames, State.camClear,
    State.camClear]
  generalize channelIds = channels
  rfl

/-! ### The end of a run-out (R91, R149) -/

/-- One channel at the end of a run-out: its active OFF is issued and its merge count ends (R91). -/
def State.runoutChannel (s : State) (c : Fin 24) : State :=
  let t := match (s.camChannel c).activeOff with
    | some a => s.issueOff c a
    | none => s
  t.setCam c fun x => { x with merges := 0 }

theorem State.camRunoutEnd_eq (s : State) : s.camRunoutEnd = channelIds.foldl State.runoutChannel s := by
  rw [State.camRunoutEnd]
  generalize channelIds = channels
  rfl

/-- A channel after the end of a run-out. -/
def CamChannel.ranOut (x : CamChannel) : CamChannel :=
  { x with level := if x.activeOff.isSome then .off else x.level, activeOff := none, merges := 0 }

/-- The timed frame of an edge (R87). -/
def State.timed (s : State) (c : Fin 24) (on : Bool) (position : Int) (serial : Nat) : OutFrame :=
  .output (s.channel c).node (s.channel c).point on false c (s.nodeCount position) (serial % 65536)

/-- The frame a channel's active OFF is issued as at the end of a run-out (R81, R91). -/
def State.lastOff (s : State) (c : Fin 24) : Option OutFrame :=
  (s.camChannel c).activeOff.map fun a => s.timed c false (s.offFiring c a) a.serial

theorem State.bumpIf_eq (p : Bool) (c : Fin 38) (s : State) :
    s.bumpIf p c = { s with sup := { s.sup with counters := (s.bumpIf p c).sup.counters } } := by
  cases p <;> rfl

/-- The counters after an issued edge (R75, R83). -/
def State.edgeCounters (s : State) (c : Fin 24) (position : Int) : Vector Nat 38 := (s.countEdge c position).sup.counters

theorem State.countEdge_eq (c : Fin 24) (position : Int) (s : State) :
    s.countEdge c position = { s with sup := { s.sup with counters := s.edgeCounters c position } } := by
  have htwo (p q : Bool) (a b : Fin 38) : (s.bumpIf p a).bumpIf q b =
      { s with sup := { s.sup with counters := ((s.bumpIf p a).bumpIf q b).sup.counters } } := by
    cases p <;> cases q <;> rfl
  exact htwo _ _ _ _

/-- An issued OFF with room: the counters, the frame and the channel (R81). -/
theorem State.issueOff_room (c : Fin 24) (a : ActiveOff) (s : State) (h : s.rif.outbound.length < 64) :
    s.issueOff c a =
      { s with
        sup := { s.sup with counters :=
          State.edgeCounters (s.bumpIf (s.offByAngle c a < a.minOff) ctrDwellExtends) c (s.offFiring c a) }
        rif := s.rif.pushOutbound (s.timed c false (s.offFiring c a) a.serial)
        cam := updateAt s.cam c fun x => gateZero (s.channel c).function { x with level := .off, activeOff := none } } := by
  have hplaced (counters : Vector Nat 38) := State.placeOutbound_room (s.timed c false (s.offFiring c a) a.serial)
    { s with sup := { s.sup with counters := counters } } h
  unfold State.issueOff
  dsimp only
  rw [State.countEdge_eq, State.bumpIf_eq]
  exact congrArg (State.setCam c _) (hplaced _)

theorem State.runoutChannel_eq (s : State) (c : Fin 24) (h : s.rif.outbound.length < 64) :
    ∃ counters, s.runoutChannel c =
      { s with
        sup := { s.sup with counters := counters }
        rif := s.rif.pushAll (s.lastOff c).toList
        cam := (s.runoutChannel c).cam } ∧
      ∀ d, (s.runoutChannel c).camChannel d = if d = c then (s.camChannel c).ranOut else s.camChannel d := by
  unfold State.runoutChannel
  cases ha : (s.camChannel c).activeOff with
  | none =>
    refine ⟨s.sup.counters, by simp only [State.lastOff, ha]; rfl, fun d => ?_⟩
    dsimp only
    rw [State.setCam_camChannel, CamChannel.ranOut, ha]
    rfl
  | some a =>
    refine ⟨State.edgeCounters (s.bumpIf (s.offByAngle c a < a.minOff) ctrDwellExtends) c (s.offFiring c a), ?_, fun d => ?_⟩
    · dsimp only
      rw [State.issueOff_room c a s h, State.lastOff, ha]
      rfl
    · dsimp only
      rw [State.setCam_camChannel, State.issueOff_room c a s h]
      have hget (d : Fin 24) := updateAt_get s.cam c d
        fun x => gateZero (s.channel c).function { x with level := .off, activeOff := none }
      simp only [State.camChannel, hget, CamChannel.ranOut]
      split
      · subst d
        change (s.cam.get c).activeOff = some a at ha
        simp only [if_true, gateZero, ha]
        split <;> rfl
      · rfl

/-- The frames of the end of a run-out, channels in their order. -/
def State.lastOffs (s : State) (l : List (Fin 24)) : List OutFrame := l.filterMap s.lastOff

theorem State.foldl_runoutChannel (l : List (Fin 24)) (hl : l.Nodup) (s : State)
    (h : s.rif.outbound.length + l.length ≤ 64) :
    ∃ counters cam, l.foldl State.runoutChannel s =
      { s with
        sup := { s.sup with counters := counters }
        rif := s.rif.pushAll (s.lastOffs l)
        cam := cam } ∧
      ∀ d, cam.get d = if d ∈ l then (s.camChannel d).ranOut else s.camChannel d := by
  induction l generalizing s with
  | nil => exact ⟨s.sup.counters, s.cam, rfl, fun _ => rfl⟩
  | cons c rest ih =>
    obtain ⟨hc, hrest⟩ := List.nodup_cons.mp hl
    rw [List.length_cons] at h
    obtain ⟨counters, hfirst, hcam⟩ := s.runoutChannel_eq c (by omega)
    rw [List.foldl_cons]
    generalize s.runoutChannel c = t at hfirst hcam ⊢
    have hroom : t.rif.outbound.length + rest.length ≤ 64 := by
      have hlength := (Rif.pushAll_length s.rif (s.lastOff c).toList).1
      have hone : (s.lastOff c).toList.length ≤ 1 := by cases s.lastOff c <;> simp
      have hrif : t.rif = s.rif.pushAll (s.lastOff c).toList := by rw [hfirst]
      rw [hrif]
      omega
    obtain ⟨counters', cam', hfold, hget⟩ := ih hrest t hroom
    refine ⟨counters', cam', ?_, fun d => ?_⟩
    · have hoffs : t.lastOffs rest = s.lastOffs rest := by
        refine List.filterMap_congr fun d hd => ?_
        have hdc : d ≠ c := fun he => hc (he ▸ hd)
        have hsame : t.camChannel d = s.camChannel d := by rw [hcam, if_neg hdc]
        rw [State.lastOff, State.lastOff, hsame, hfirst]
        rfl
      have hlist : s.lastOffs (c :: rest) = (s.lastOff c).toList ++ s.lastOffs rest := by
        rw [State.lastOffs, List.filterMap_cons]
        cases s.lastOff c <;> rfl
      rw [hfold, hoffs, hlist, Rif.pushAll_append, hfirst]
    · rw [hget, hcam]
      by_cases hdc : d = c
      · subst hdc
        simp [hc]
      · simp [hdc]

/-- The end of a run-out with room for its frames: the OFFs, then DRIVE STOP, then the notice (R149). -/
theorem State.completeRunout_eq (s : State) (h : s.rif.outbound.length ≤ 39) :
    ∃ counters cam, s.completeRunout = State.lineNotice s.sup.line
      { s with
        sup := { s.sup with line := .idle, counters := counters }
        cam := cam
        reg := { s.reg with lock := .off, matchCount := 0, missCount := 0 }
        rif := s.rif.pushAll (s.lastOffs channelIds ++ [.drive s.settings.driveNode .stop]) } ∧
      ∀ c, cam.get c = (s.camChannel c).ranOut := by
  have hroom : (s.setLine .idle s.sup.reason).rif.outbound.length + channelIds.length ≤ 64 := by
    show s.rif.outbound.length + 24 ≤ 64
    omega
  obtain ⟨counters, cam, hfold, hcam⟩ :=
    State.foldl_runoutChannel channelIds (List.nodup_finRange 24) (s.setLine .idle s.sup.reason) hroom
  refine ⟨counters, cam, ?_, fun c => (hcam c).trans (if_pos (channelIds_mem c))⟩
  have hlength : (s.rif.pushAll (s.lastOffs channelIds)).outbound.length < 64 := by
    have hframes : (s.lastOffs channelIds).length ≤ 24 := List.length_filterMap_le _ _
    have hall := (Rif.pushAll_length s.rif (s.lastOffs channelIds)).1
    omega
  unfold State.completeRunout
  dsimp only
  rw [State.camRunoutEnd_eq, hfold, Rif.pushAll_append]
  generalize channelIds = channels at hlength ⊢
  have hplaced := State.placeOutbound_room (.drive s.settings.driveNode .stop)
    { s with
      sup := { s.sup with line := .idle, counters := counters }
      cam := cam
      reg := { s.reg with lock := .off, matchCount := 0, missCount := 0 }
      rif := s.rif.pushAll (s.lastOffs channels) } hlength
  exact congrArg (State.lineNotice s.sup.line) hplaced

/-! ### What waits to be taken (R159 step 4) -/

theorem State.halt_deferred (r : StopReason) (s : State) : (s.halt r).sup.deferred = s.sup.deferred := by
  by_cases h : s.sup.line = .safe
  · rw [State.halt_safe r s h]
  · rw [State.halt_eq r s h, State.lineNotice, State.notice_sup_deferred]
    rfl

/-- Only halts wait: what an overrun at the end of a run-out leaves (R149, R174). -/
def State.HaltsWait (s : State) : Prop := ∀ d ∈ s.sup.deferred, ∃ r, d = .halt r

theorem State.placeOutbound_haltsWait (f : OutFrame) {s : State} (h : s.HaltsWait) : (s.placeOutbound f).HaltsWait := by
  rcases s.placeOutbound_cases f with ⟨-, he⟩ | ⟨-, -, he⟩ | ⟨-, -, he⟩
  · rw [he]; exact h
  · rw [he]; exact h
  · rw [he]
    intro d hd
    rw [State.raise, State.raiseAt_sup_deferred] at hd
    rcases List.mem_append.mp hd with hold | hnew
    · exact h d hold
    · exact ⟨_, List.mem_singleton.mp hnew⟩

theorem State.runoutChannel_haltsWait {s : State} (c : Fin 24) (h : s.HaltsWait) : (s.runoutChannel c).HaltsWait := by
  unfold State.runoutChannel
  cases (s.camChannel c).activeOff with
  | none => exact h
  | some a =>
    have hcounted : (State.countEdge c (s.offFiring c a) (s.bumpIf (s.offByAngle c a < a.minOff) ctrDwellExtends)).HaltsWait := by
      rw [State.countEdge_eq, State.bumpIf_eq]
      exact h
    exact State.placeOutbound_haltsWait _ hcounted

theorem State.lineNotice_haltsWait (p : LineState) {s : State} (h : s.HaltsWait) : (s.lineNotice p).HaltsWait := by
  rw [State.HaltsWait, State.lineNotice, State.notice_sup_deferred]
  exact h

theorem State.completeRunout_haltsWait {s : State} (h : s.HaltsWait) : s.completeRunout.HaltsWait := by
  have hfold (l : List (Fin 24)) (t : State) (ht : t.HaltsWait) : (l.foldl State.runoutChannel t).HaltsWait := by
    induction l generalizing t with
    | nil => exact ht
    | cons c rest ih => exact ih _ (State.runoutChannel_haltsWait c ht)
  unfold State.completeRunout
  dsimp only
  rw [State.camRunoutEnd_eq]
  generalize channelIds = channels
  refine State.lineNotice_haltsWait _ (State.placeOutbound_haltsWait _ ?_)
  exact hfold channels (s.setLine .idle s.sup.reason) h

theorem State.applyEffect_haltsWait (d : Deferred) {s : State} (h : s.HaltsWait) : (s.applyEffect d).HaltsWait := by
  cases d with
  | halt r =>
    show (s.halt r).HaltsWait
    rw [State.HaltsWait, State.halt_deferred]
    exact h
  | stop r =>
    show (s.stop r).HaltsWait
    unfold State.stop
    split
    · dsimp only
      split
      · exact State.completeRunout_haltsWait (State.lineNotice_haltsWait _ h)
      · exact State.lineNotice_haltsWait _ h
    · exact h

theorem State.applyEffects_haltsWait (s : State) : s.applyEffects.HaltsWait := by
  have hfold (l : List Deferred) (t : State) (ht : t.HaltsWait) : (l.foldl State.applyEffect t).HaltsWait := by
    induction l generalizing t with
    | nil => exact ht
    | cons d rest ih => exact ih _ (State.applyEffect_haltsWait d ht)
  exact hfold s.sup.deferred _ fun _ hd => absurd hd List.not_mem_nil

/-- Halts that wait are taken without raising more: their queue is emptied for their frames. -/
theorem State.HaltsWait.applyEffects_settled {s : State} (h : s.HaltsWait) : s.applyEffects.Settled := by
  have hfold (l : List Deferred) (hl : ∀ d ∈ l, ∃ r, d = .halt r) (t : State) (ht : t.Settled) :
      (l.foldl State.applyEffect t).Settled := by
    induction l generalizing t with
    | nil => exact ht
    | cons d rest ih =>
      obtain ⟨r, rfl⟩ := hl d (List.mem_cons_self ..)
      exact ih (fun e he => hl e (List.mem_cons_of_mem _ he)) _ ((State.halt_deferred r t).trans ht)
  exact hfold s.sup.deferred h _ rfl

theorem State.applyEffects_idle (s : State) (h : s.Settled) : s.applyEffects = s := by
  have hsup : { s.sup with deferred := [] } = s.sup := by
    rw [← h]
  rw [State.applyEffects, h, hsup]
  rfl

/-- After step 4 of R159 nothing waits. -/
theorem State.settle_settled (s : State) : s.settle.Settled := s.applyEffects_haltsWait.applyEffects_settled

/-- One effect that waits is taken. -/
theorem State.settle_one {d : Deferred} {s : State} (h : s.sup.deferred = [d])
    (hd : ({ s with sup := { s.sup with deferred := [] } }.applyEffect d).Settled) :
    s.settle = { s with sup := { s.sup with deferred := [] } }.applyEffect d := by
  have hfirst : s.applyEffects = { s with sup := { s.sup with deferred := [] } }.applyEffect d := by
    rw [State.applyEffects, h]
    rfl
  rw [State.settle, hfirst, State.applyEffects_idle _ hd]

/-- One halt that waits is taken. -/
theorem State.settle_halt {r : StopReason} {s : State} (h : s.sup.deferred = [.halt r]) :
    s.settle = { s with sup := { s.sup with deferred := [] } }.halt r :=
  State.settle_one h (State.halt_deferred r _)

end Sys2Proof.Machine

/-! ## What a command leaves of the line and of the lots -/

namespace Sys2Proof.Machine

/-! ### Commands that leave the line alone -/

/-- The line, what waits to be taken and the held position stay; the position is lost only while the line is IDLE. -/
structure State.Calm (s t : State) : Prop where
  line : t.sup.line = s.sup.line
  deferred : t.sup.deferred = s.sup.deferred
  held : t.pos.held = s.pos.held
  known : t.pos.state = s.pos.state ∨ s.sup.line = .idle

/-- The lots and the records stay, too. -/
structure State.Still (s t : State) : Prop extends State.Calm s t where
  table : t.lot.table = s.lot.table
  queue : t.trq.queue = s.trq.queue

theorem State.Still.of_eq {s t : State} (hline : t.sup.line = s.sup.line := by rfl)
    (hdeferred : t.sup.deferred = s.sup.deferred := by rfl) (hpos : t.pos = s.pos := by rfl)
    (htable : t.lot.table = s.lot.table := by rfl) (hqueue : t.trq.queue = s.trq.queue := by rfl) : s.Still t :=
  ⟨⟨hline, hdeferred, congrArg Pos.held hpos, .inl (congrArg Pos.state hpos)⟩, htable, hqueue⟩

theorem State.Still.refl (s : State) : s.Still s := .of_eq

theorem State.Calm.trans {s t u : State} (h : s.Calm t) (h' : t.Calm u) : s.Calm u where
  line := h'.line.trans h.line
  deferred := h'.deferred.trans h.deferred
  held := h'.held.trans h.held
  known := by
    rcases h'.known with hu | hidle
    · rcases h.known with ht | hidle
      · exact .inl (hu.trans ht)
      · exact .inr hidle
    · exact .inr (h.line.symm.trans hidle)

theorem State.Still.trans {s t u : State} (h : s.Still t) (h' : t.Still u) : s.Still u where
  toCalm := h.toCalm.trans h'.toCalm
  table := h'.table.trans h.table
  queue := h'.queue.trans h.queue

theorem State.bump_still (c : Fin 38) (s : State) : s.Still (s.bump c) := .of_eq

theorem State.bumpIf_still (p : Bool) (c : Fin 38) (s : State) : s.Still (s.bumpIf p c) := by
  cases p
  · exact .refl s
  · exact s.bump_still c

theorem State.setChk_still (i : Fin 16) (f : ChkInput → ChkInput) (s : State) : s.Still (s.setChk i f) := .of_eq

theorem State.setReg_still (r : Reg) (s : State) : s.Still { s with reg := r } := .of_eq

theorem State.Passing.still {s t : State} (h : s.Passing t) : s.Still t := by
  cases h with
  | wire => exact .of_eq
  | count c => exact s.bump_still c
  | linkDown =>
    refine .of_eq (by simp) ?_ (by simp) (by simp) (by simp)
    rw [State.raise, State.raiseAt_sup_deferred]
    exact List.append_nil _

theorem State.Passings.still {s t : State} (h : s.Passings t) : s.Still t :=
  h.keeps (P := s.Still) (fun _ _ hp hs => hs.trans hp.still) (.refl s)

/-! ### Edge reports -/

theorem State.markPulse_still (lead : Int) (width : Option Int) (s : State) : s.Still (s.markPulse lead width) := by
  unfold State.markPulse
  split
  · exact .refl s
  · split
    · exact .refl s
    · split
      · exact s.bump_still _
      · split
        · exact s.bump_still _
        · exact s.setReg_still _

theorem State.markWidth_still (lead width : Int) (s : State) : s.Still (s.markWidth lead width) := by
  unfold State.markWidth
  split
  · exact .refl s
  · dsimp only
    split
    · exact s.setReg_still _
    · split
      · exact s.setReg_still _
      · exact (s.setReg_still _).trans (State.bump_still _ _)

theorem State.splicePulse_still (s : State) : s.Still s.splicePulse := by
  unfold State.splicePulse
  split
  · exact .refl s
  · exact .refl s
  · exact s.setReg_still _

theorem State.boxTaken_still (s : State) : s.Still s.boxTaken := by
  unfold State.boxTaken
  split
  · exact s.bump_still _
  · exact .of_eq

theorem State.checkPulse_still (i : Fin 16) (lead : Int) (s : State) : s.Still (s.checkPulse i lead) := by
  unfold State.checkPulse
  split
  · exact .refl s
  · dsimp only
    split
    · exact s.setChk_still i _
    · exact s.bumpIf_still _ _

theorem State.routePulse_still (i : Fin 16) (lead : Int) (width : Option Int) (s : State) :
    s.Still (s.routePulse i lead width) := by
  unfold State.routePulse
  split
  · exact s.markPulse_still lead width
  · exact s.splicePulse_still
  · exact s.boxTaken_still
  · exact s.checkPulse_still i lead
  · exact .refl s

theorem State.acceptOpen_still (s : State) (i : Fin 16) : s.Still (s.acceptOpen i) := by
  unfold State.acceptOpen
  split
  · split
    · exact (s.setChk_still i _).trans (State.routePulse_still i _ _ _)
    · exact .refl s
  · exact .refl s
  · exact .refl s

theorem State.leadingEdge_still (i : Fin 16) (position : Int) (s : State) : s.Still (s.leadingEdge i position) := by
  unfold State.leadingEdge
  dsimp only
  refine State.Still.trans ?_ (State.acceptOpen_still _ i)
  split
  · exact s.setChk_still i _
  · exact (s.setChk_still i _).trans (State.bump_still _ _)
  · split
    · exact ((s.setChk_still i _).trans (State.bump_still _ _)).trans (State.setReg_still _ _)
    · exact (s.setChk_still i _).trans (State.bump_still _ _)

theorem State.trailingEdge_still (i : Fin 16) (position : Int) (s : State) : s.Still (s.trailingEdge i position) := by
  unfold State.trailingEdge
  dsimp only
  split
  · exact .refl s
  · split
    · exact (s.setChk_still i _).trans (State.bump_still _ _)
    · exact (s.setChk_still i _).trans (State.routePulse_still i _ _ _)
  · split
    · exact (s.setChk_still i _).trans (State.markWidth_still _ _ _)
    · exact s.setChk_still i _

theorem State.takeEdge_still (src : Byte) (point : Nat) (level : InLevel) (count : Nat) (s : State) :
    s.Still (s.takeEdge src point level count) := by
  unfold State.takeEdge
  split
  · exact s.bump_still _
  · dsimp only
    split
    · exact s.bump_still _
    · split
      · exact s.bump_still _
      · split
        · exact s.bump_still _
        · split
          · exact s.leadingEdge_still _ _
          · exact s.trailingEdge_still _ _

/-! ### Owners that leave the line and the lots alone -/

theorem channelSetOwner_still (a : ChannelArgs) (s : State) : s.Still (channelSetOwner a s).1 := by
  unfold channelSetOwner
  split
  · exact .refl s
  · split
    · exact .refl s
    · split
      · exact .refl s
      · split
        · exact .refl s
        · split
          · exact .refl s
          · split
            · exact .refl s
            · exact .of_eq

theorem State.chkInputSet_still (i : Fin 16) (s : State) : s.Still (s.chkInputSet i) := by
  unfold State.chkInputSet
  dsimp only
  split
  · exact (s.setReg_still _).trans (State.setChk_still i _ _)
  · exact s.setChk_still i _

theorem inputSetOwner_still (a : InputArgs) (s : State) : s.Still (inputSetOwner a s).1 := by
  unfold inputSetOwner
  split
  · exact .refl s
  · split
    · exact .refl s
    · split
      · exact .refl s
      · split
        · exact .refl s
        · split
          · exact .refl s
          · split
            · exact .refl s
            · exact (s.chkInputSet_still _).trans .of_eq

theorem mapSetOwner_still (a : MapArgs) (s : State) : s.Still (mapSetOwner a s).1 := by
  unfold mapSetOwner
  split
  · exact .refl s
  · split
    · exact .refl s
    · split
      · exact .refl s
      · split
        · exact .refl s
        · exact .of_eq

theorem State.applySettings_still (new : Settings) (ids : List (Fin 16)) {s : State} (h : s.sup.line = .idle) :
    s.Still (s.applySettings new ids) := by
  unfold State.applySettings
  dsimp only
  split
  · exact ⟨⟨rfl, rfl, rfl, .inr h⟩, rfl, rfl⟩
  · exact .of_eq

theorem settingsSetOwner_still (a : SettingsArgs) (s : State) : s.Still (settingsSetOwner a s).1 := by
  unfold settingsSetOwner
  split
  · exact .refl s
  · next hidle =>
    have hidle : s.sup.line = .idle := not_not.mp hidle
    split
    · exact .refl s
    · split
      · exact State.applySettings_still _ _ hidle
      · split
        · exact .refl s
        · exact State.applySettings_still _ _ hidle

theorem formatOpenOwner_still (id : Byte) (s : State) : s.Still (formatOpenOwner id s).1 := by
  unfold formatOpenOwner
  split
  · exact .refl s
  · split
    · exact .refl s
    · exact .of_eq

theorem formatEraseOwner_still (id : Byte) (s : State) : s.Still (formatEraseOwner id s).1 := by
  unfold formatEraseOwner
  split
  · exact .refl s
  · split
    · exact .refl s
    · exact .of_eq

theorem formatLoadOwner_still (id : Byte) (items : List LoadItem) (s : State) : s.Still (formatLoadOwner id items s).1 := by
  unfold formatLoadOwner
  split
  · exact .refl s
  · dsimp only
    split
    · exact .refl s
    · split
      · exact .refl s
      · split
        · exact .refl s
        · split
          · exact .refl s
          · exact .of_eq

theorem formatCommitOwner_still (id : Byte) (sum : Half) (s : State) : s.Still (formatCommitOwner id sum s).1 := by
  unfold formatCommitOwner
  split
  · exact .refl s
  · dsimp only
    split
    · exact .refl s
    · split
      · exact .of_eq
      · split
        · exact .of_eq
        · split
          · exact .of_eq
          · exact .of_eq

theorem formatReadOwner_still (id page : Byte) (s : State) : s.Still (formatReadOwner id page s).1 := by
  unfold formatReadOwner
  split
  · exact .refl s
  · exact .refl s

theorem lotAddOwner_calm (a : LotArgs) (s : State) : s.Calm (lotAddOwner a s).1 := by
  unfold lotAddOwner
  split
  · exact (State.Still.refl s).toCalm
  · split
    · exact (State.Still.refl s).toCalm
    · dsimp only
      split
      · exact (State.Still.refl s).toCalm
      · split
        · exact (State.Still.refl s).toCalm
        · split
          · exact (State.Still.refl s).toCalm
          · split
            · exact (State.Still.refl s).toCalm
            · exact ⟨rfl, rfl, rfl, .inl rfl⟩

theorem lotReadOwner_still (selector : Byte) (id : Half) (place : Byte) (s : State) :
    s.Still (lotReadOwner selector id place s).1 := by
  unfold lotReadOwner
  split
  · exact .refl s
  · split
    · exact .refl s
    · exact .refl s

theorem countersReadOwner_still (groups clear : Byte) (s : State) : s.Still (countersReadOwner groups clear s).1 := by
  unfold countersReadOwner
  dsimp only
  split
  · exact .refl s
  · split
    · exact .of_eq
    · exact .refl s

theorem logClearOwner_still (sequence : Quad) (s : State) : s.Still (logClearOwner sequence s).1 := by
  unfold logClearOwner
  dsimp only
  split
  · exact .refl s
  · split
    · exact .of_eq
    · exact .refl s

/-- Of the requests without step 4 of R159 behind them only LOT_ADD touches the lots. -/
theorem Service.owner_still {i : Instr} {v : Service} (h : service i = some v) (hsettles : v.settles = false)
    (hadd : ∀ src tag a, i ≠ .lotAdd src tag a) (s : State) : s.Still (v.owner s).1 := by
  cases i with
  | channelSet => exact Option.some.inj h ▸ channelSetOwner_still _ s
  | inputSet => exact Option.some.inj h ▸ inputSetOwner_still _ s
  | mapSet => exact Option.some.inj h ▸ mapSetOwner_still _ s
  | settingsSet => exact Option.some.inj h ▸ settingsSetOwner_still _ s
  | formatOpen => exact Option.some.inj h ▸ formatOpenOwner_still _ s
  | formatLoad => exact Option.some.inj h ▸ formatLoadOwner_still _ _ s
  | formatCommit => exact Option.some.inj h ▸ formatCommitOwner_still _ _ s
  | formatErase => exact Option.some.inj h ▸ formatEraseOwner_still _ s
  | formatRead => exact Option.some.inj h ▸ formatReadOwner_still _ _ s
  | lotAdd src tag a => exact absurd rfl (hadd src tag a)
  | lotRead => exact Option.some.inj h ▸ lotReadOwner_still _ _ _ s
  | statusRead => exact Option.some.inj h ▸ (.of_eq : s.Still (statusReadOwner s).1)
  | trackRead => exact Option.some.inj h ▸ (.refl s : s.Still (trackReadOwner s).1)
  | countersRead => exact Option.some.inj h ▸ countersReadOwner_still _ _ s
  | logRead src tag first => exact Option.some.inj h ▸ (.refl s : s.Still (logReadOwner first s).1)
  | logClear => exact Option.some.inj h ▸ logClearOwner_still _ s
  | lotCancel | lineStart | lineStop | lineHalt | lineClear | lineReset | manualSet =>
    rw [← Option.some.inj h] at hsettles
    contradiction
  | _ => contradiction

theorem Service.owner_calm {i : Instr} {v : Service} (h : service i = some v) (hsettles : v.settles = false)
    (s : State) : s.Calm (v.owner s).1 := by
  by_cases hadd : ∃ src tag a, i = .lotAdd src tag a
  · obtain ⟨src, tag, a, rfl⟩ := hadd
    exact Option.some.inj h ▸ lotAddOwner_calm a s
  · exact (Service.owner_still h hsettles (fun src tag a he => hadd ⟨src, tag, a, he⟩) s).toCalm

/-! ### Requests -/

/-- What an owner keeps and the ring interface does not touch, a request keeps. -/
theorem takeRequest_preserves {P : State → Prop} (hwire : ∀ t r, P t → P { t with rif := r })
    (hbump : ∀ t c, P t → P (t.bump c)) {owner : State → State × Reply} (howner : ∀ t, P t → P (owner t).1)
    (src code tag : Byte) (parts : Nat) {s : State} (hs : P s) : P (takeRequest src code tag parts owner s) :=
  takeRequest_keeps P src code tag parts owner s hs (hwire s _ hs) (hbump _ _ (hwire s _ hs))
    fun _ => hwire _ _ (howner _ (hwire s _ hs))

theorem takeRequest_calm {owner : State → State × Reply} (howner : ∀ t : State, t.Calm (owner t).1)
    (src code tag : Byte) (parts : Nat) (s : State) : s.Calm (takeRequest src code tag parts owner s) :=
  takeRequest_preserves (P := s.Calm) (fun _ _ h => h.trans (State.Still.of_eq).toCalm)
    (fun t c h => h.trans (t.bump_still c).toCalm) (fun _ h => h.trans (howner _)) src code tag parts
    (State.Still.refl s).toCalm

theorem takeRequest_still {owner : State → State × Reply} (howner : ∀ t : State, t.Still (owner t).1)
    (src code tag : Byte) (parts : Nat) (s : State) : s.Still (takeRequest src code tag parts owner s) :=
  takeRequest_preserves (P := s.Still) (fun _ _ h => h.trans .of_eq)
    (fun t c h => h.trans (t.bump_still c)) (fun _ h => h.trans (howner _)) src code tag parts (.refl s)

theorem undecodedService_still (src : Byte) (payload : List Byte) (s : State) :
    s.Still ((undecodedService src payload).run s) :=
  takeRequest_still (fun t => .refl t) _ _ _ _ s

theorem Service.run_calm {i : Instr} {v : Service} (h : service i = some v) (hsettles : v.settles = false) (s : State) :
    s.Calm (v.run s) := by
  rw [Service.run, hsettles]
  exact takeRequest_calm (Service.owner_calm h hsettles) _ _ _ _ s

theorem Service.run_still {i : Instr} {v : Service} (h : service i = some v) (hsettles : v.settles = false)
    (hadd : ∀ src tag a, i ≠ .lotAdd src tag a) (s : State) : s.Still (v.run s) := by
  rw [Service.run, hsettles]
  exact takeRequest_still (Service.owner_still h hsettles hadd) _ _ _ _ s

end Sys2Proof.Machine

/-! ## Settled: effects taken, a known position in every run, and the line's transitions -/

namespace Sys2Proof.Machine

/-! ### How the line moves -/

theorem State.halt_line (r : StopReason) (s : State) : (s.halt r).sup.line = .safe := by
  by_cases h : s.sup.line = .safe
  · rw [State.halt_safe r s h, h]
  · rw [State.halt_eq r s h, State.lineNotice, State.notice_sup_line]
    rfl

/-- A line at the last stage is SAFE. -/
theorem LineState.eq_safe_of_stage_le {l : LineState} (h : LineState.safe.stage ≤ l.stage) : l = .safe := by
  cases l with
  | safe => rfl
  | run | runout | idle => exact absurd h (by decide)

/-- A halt among the effects that wait brings the line to SAFE, and there it stays (R150, R151). -/
theorem State.settle_safe {r : StopReason} {s : State} (h : .halt r ∈ s.sup.deferred) : s.settle.sup.line = .safe := by
  have hfold (l : List Deferred) (t : State) : t.Works (l.foldl State.applyEffect t) :=
    State.foldl_works State.applyEffect_works l t
  obtain ⟨before, after, hsplit⟩ := List.append_of_mem h
  have hsafe : s.applyEffects.sup.line = .safe := by
    rw [State.applyEffects, hsplit, List.foldl_append, List.foldl_cons]
    refine LineState.eq_safe_of_stage_le ?_
    refine Nat.le_trans (Nat.le_of_eq ?_) (hfold after _).acts.stage_le
    exact congrArg LineState.stage (State.halt_line r _).symm
  refine LineState.eq_safe_of_stage_le ?_
  exact (Nat.le_of_eq (congrArg LineState.stage hsafe.symm)).trans (State.applyEffects_works _).acts.stage_le

/-- Where only halts wait, the line stays or is SAFE. -/
theorem State.HaltsWait.settle_line {s : State} (h : s.HaltsWait) :
    s.settle.sup.line = s.sup.line ∨ s.settle.sup.line = .safe := by
  cases hwaits : s.sup.deferred with
  | nil => exact .inl (by rw [State.settle_idle s hwaits])
  | cons d rest =>
    obtain ⟨r, rfl⟩ := h d (hwaits ▸ List.mem_cons_self ..)
    exact .inr (State.settle_safe (hwaits ▸ List.mem_cons_self ..))

theorem State.Acts.runsKnown {s t : State} (h : s.Acts t) (hs : s.RunsKnown) : t.RunsKnown := by
  intro hrun
  rw [h.pos]
  have hstage := h.stage_le
  refine hs ?_
  unfold State.running at hrun ⊢
  cases hline : s.sup.line with
  | run => rfl
  | runout => rfl
  | idle | safe =>
    rw [hline] at hstage
    cases hline' : t.sup.line <;> rw [hline'] at hrun hstage <;> contradiction

theorem State.Calm.runsKnown {s t : State} (h : s.Calm t) (hs : s.RunsKnown) : t.RunsKnown := by
  intro hrun
  unfold State.running at hrun
  rw [h.line] at hrun
  rcases h.known with hsame | hidle
  · exact hsame.trans (hs hrun)
  · rw [hidle] at hrun
    contradiction

theorem State.runsKnown_of_idle {s : State} (h : s.sup.line = .idle) : s.RunsKnown := by
  intro hrun
  rw [State.running, h] at hrun
  contradiction

/-! ### LINE_START, LINE_CLEAR and LINE_RESET (R146, R152, R153) -/

theorem State.regStart_frame (f : Format) (runClass : Nat) (s : State) :
    (s.regStart f runClass).sup.line = s.sup.line ∧ (s.regStart f runClass).pos = s.pos ∧
      (s.HaltsWait → (s.regStart f runClass).HaltsWait) := by
  have hplaced (t : State) (hline : t.sup = s.sup) (hpos : t.pos = s.pos) : t.placeTrim.sup.line = s.sup.line ∧
      t.placeTrim.pos = s.pos ∧ (s.HaltsWait → t.placeTrim.HaltsWait) := by
    refine ⟨by rw [State.placeTrim_sup_line, hline], by rw [State.placeTrim_pos, hpos], fun h => ?_⟩
    refine State.placeOutbound_haltsWait _ ?_
    rw [State.HaltsWait, hline]
    exact h
  unfold State.regStart
  dsimp only
  split
  · exact hplaced s rfl rfl
  · exact hplaced _ rfl rfl

theorem State.start_frame (l : Lot) (s : State) :
    (s.start l).sup.line = .run ∧ (s.start l).pos = s.pos ∧ (s.HaltsWait → (s.start l).HaltsWait) := by
  unfold State.start
  dsimp only
  obtain ⟨hline, hpos, hwait⟩ := State.regStart_frame (s.format l.format) (s.format l.format).sizeClass
    { s.setLine .run .none with lot := { s.lot with runClass := some (s.format l.format).sizeClass } }
  refine ⟨?_, ?_, fun h => ?_⟩
  · rw [State.lineNotice_sup_line, State.placeDrive_sup_line]
    exact hline
  · rw [State.lineNotice_pos, State.placeDrive_pos]
    exact hpos
  · exact State.lineNotice_haltsWait _ (State.placeOutbound_haltsWait _ (hwait h))

theorem State.startingLot_mem {l : Lot} {s : State} (h : s.startingLot = some l) :
    l ∈ s.lot.table ∧ l.state ≠ .closed := by
  have hfound {st : LotState} (hst : st ≠ .closed) (hl : s.lot.table.find? (fun l => l.state == st) = some l) :
      l ∈ s.lot.table ∧ l.state ≠ .closed := by
    have hstate : l.state = st := by simpa using List.find?_some hl
    exact ⟨List.mem_of_find?_eq_some hl, hstate ▸ hst⟩
  unfold State.startingLot at h
  split at h
  · next hl =>
    obtain rfl := Option.some.inj h
    exact hfound (by decide) hl
  · exact hfound (by decide) h

/-- LINE_START either leaves the state or starts the line: IDLE, the position KNOWN, a lot to cut for (R146). -/
theorem lineStartOwner_cases (s : State) :
    (lineStartOwner s).1 = s ∨ (s.sup.line = .idle ∧ s.pos.state = .known ∧
      ∃ l ∈ s.lot.table, l.state ≠ .closed ∧ (lineStartOwner s).1 = s.start l) := by
  unfold lineStartOwner
  split
  · exact .inl rfl
  · next hline =>
    split
    · exact .inl rfl
    · next hknown =>
      split
      · exact .inl rfl
      · next l hl =>
        obtain ⟨hmem, hopen⟩ := State.startingLot_mem hl
        exact .inr ⟨not_not.mp hline, not_not.mp hknown, l, hmem, hopen, rfl⟩

/-- LINE_CLEAR either leaves the state or ends in IDLE from SAFE (R152). -/
theorem lineClearOwner_cases (s : State) :
    (lineClearOwner s).1 = s ∨ (s.sup.line = .safe ∧ (lineClearOwner s).1.sup.line = .idle ∧
      (lineClearOwner s).1.pos = s.pos) := by
  unfold lineClearOwner
  split
  · exact .inl rfl
  · next hline =>
    refine .inr ⟨not_not.mp hline, ?_, ?_⟩
    · exact State.lineNotice_sup_line _ _
    · have hacts := (s.purge_acts.trans (endAll_acts s.purge.endingKeys 0 0 _)).trans (State.settle_works _).acts
      exact (State.lineNotice_pos _ _).trans hacts.pos

/-- LINE_RESET either leaves the state or ends in IDLE (R153). -/
theorem lineResetOwner_cases (s : State) :
    (lineResetOwner s).1 = s ∨ (s.running = false ∧ (lineResetOwner s).1.sup.line = .idle ∧
      (lineResetOwner s).1.pos = s.pos) := by
  unfold lineResetOwner
  split
  · exact .inl rfl
  · next hrun =>
    refine .inr ⟨Bool.eq_false_iff.mpr hrun, ?_, ?_⟩
    · dsimp only
      rw [State.lineNotice_sup_line, State.placeTrim_sup_line]
      rfl
    · dsimp only
      rw [State.lineNotice_pos, State.placeTrim_pos]
      rfl

/-! ### Samples and the loss of the position -/

theorem State.measure_pos (count time : Nat) (s : State) : (s.measure count time).pos = s.nextPos count time := by
  rw [State.measure_eq]
  dsimp only
  split
  · rw [State.raise_pos, State.raiseMotion_pos]
  · rw [State.raiseMotion_pos]

theorem State.takeSample_known {count time : Nat} {s : State} (h : s.pos.state = .known) :
    (s.takeSample count time).pos = s.nextPos count time := by
  rw [State.takeSample, h]
  dsimp only
  split
  · exact (State.advance_acts _ _ _).pos.trans (s.measure_pos count time)
  · exact (State.settle_works _).acts.pos.trans (s.measure_pos count time)

/-- A sample moves the line no further back than it stands. -/
theorem State.measure_stage (count time : Nat) (s : State) : s.sup.line.stage ≤ (s.measure count time).sup.line.stage := by
  have hmoved := (State.raiseMotion_works s.pos.held (s.nextPos count time).raw (countStep s.pos.lastCount count)
    (s.motion count) { s with pos := s.nextPos count time }).acts.stage_le
  rw [State.measure_eq]
  dsimp only
  split
  · rw [State.raise_sup_line]
    exact hmoved
  · exact hmoved

theorem State.takeSample_stage (count time : Nat) (s : State) :
    s.sup.line.stage ≤ (s.takeSample count time).sup.line.stage := by
  unfold State.takeSample
  split
  · exact Nat.le_refl _
  · dsimp only
    split
    · exact (s.measure_stage count time).trans (State.advance_acts _ _ _).stage_le
    · exact (s.measure_stage count time).trans (State.settle_works _).acts.stage_le

theorem State.takeSample_state (count time : Nat) (s : State) : (s.takeSample count time).pos.state = .known := by
  cases h : s.pos.state with
  | unknown => rw [State.takeSample_unknown _ _ s h]; rfl
  | known => rw [State.takeSample_known h]; exact h

theorem State.takeTurn_settled (previous new : Nat) (effects : List Deferred) (s : State) (turn : Turn) :
    (s.takeTurn previous new effects turn).Settled := by
  cases turn <;> exact State.settle_settled _

theorem State.advance_settled (previous new : Nat) (s : State) : (s.advance previous new).Settled := by
  have hfold (l : List Turn) (effects : List Deferred) (t : State) (ht : t.Settled) :
      (l.foldl (State.takeTurn previous new effects) t).Settled := by
    induction l generalizing t with
    | nil => exact ht
    | cons turn rest ih => exact ih _ (State.takeTurn_settled previous new effects t turn)
  exact hfold _ _ _ rfl

theorem State.takeSample_settled (count time : Nat) {s : State} (h : s.Settled) : (s.takeSample count time).Settled := by
  unfold State.takeSample
  split
  · exact h
  · dsimp only
    split
    · exact State.advance_settled _ _ _
    · exact State.settle_settled _

/-- The loss of the position halts a run (R9). -/
theorem State.motionLost_running {loaded : Nat} {s : State} (h : s.running = true) :
    (s.motionLost loaded).sup.line = .safe := by
  unfold State.motionLost
  dsimp only
  rw [h]
  refine State.settle_safe (r := .fault (s.raise .motionLost .safe (.number loaded)).sup.lastSequence) ?_
  show _ ∈ (s.raise .motionLost .safe (.number loaded)).sup.deferred
  rw [State.raise, State.raiseAt_sup_deferred, State.raiseAt_sup_lastSequence]
  exact List.mem_append_right _ (List.mem_singleton.mpr rfl)

theorem State.motionLost_stage (loaded : Nat) (s : State) : s.sup.line.stage ≤ (s.motionLost loaded).sup.line.stage := by
  unfold State.motionLost
  dsimp only
  refine Nat.le_trans (Nat.le_of_eq ?_) (State.settle_works _).acts.stage_le
  exact congrArg LineState.stage (State.raise_sup_line _ _ _ s).symm

theorem State.running_of_stage {s : State} : s.running = true ↔ s.sup.line.stage ≤ 1 := by
  unfold State.running
  cases s.sup.line <;> simp [LineState.stage]

theorem State.motionLost_runsKnown (loaded : Nat) (s : State) : (s.motionLost loaded).RunsKnown := by
  intro hrun
  cases h : s.running with
  | true =>
    rw [State.running, State.motionLost_running h] at hrun
    contradiction
  | false =>
    have hstage := s.motionLost_stage loaded
    rw [State.running_of_stage] at hrun
    rw [Bool.eq_false_iff, ne_eq, State.running_of_stage] at h
    exact absurd (hstage.trans hrun) h

/-! ### What requests that settle do -/

/-- Of the requests with step 4 of R159 behind them only three do more than acts. -/
theorem Service.owner_acts {i : Instr} {v : Service} (h : service i = some v) (hsettles : v.settles = true)
    (hstart : ∀ src tag, i ≠ .lineStart src tag) (hclear : ∀ src tag, i ≠ .lineClear src tag)
    (hreset : ∀ src tag, i ≠ .lineReset src tag) (s : State) : s.Acts (v.owner s).1 := by
  cases i with
  | lotCancel src tag id makeUp => exact Option.some.inj h ▸ lotCancelOwner_acts id makeUp s
  | lineStop => exact Option.some.inj h ▸ (State.stop_works .request s).acts
  | lineHalt => exact Option.some.inj h ▸ (State.halt_works .request s).acts
  | manualSet src tag channel level => exact Option.some.inj h ▸ (manualSetOwner_works channel level s).acts
  | lineStart src tag => exact absurd rfl (hstart src tag)
  | lineClear src tag => exact absurd rfl (hclear src tag)
  | lineReset src tag => exact absurd rfl (hreset src tag)
  | channelSet | inputSet | mapSet | settingsSet | formatOpen | formatLoad | formatCommit | formatErase | formatRead | lotAdd
  | lotRead | statusRead | trackRead | countersRead | logRead | logClear =>
    rw [← Option.some.inj h] at hsettles
    contradiction
  | _ => contradiction

theorem Service.owner_runsKnown {i : Instr} {v : Service} (h : service i = some v) {s : State} (hs : s.RunsKnown) :
    (v.owner s).1.RunsKnown := by
  cases hsettles : v.settles with
  | false => exact (Service.owner_calm h hsettles s).runsKnown hs
  | true =>
    by_cases hstart : ∃ src tag, i = .lineStart src tag
    · obtain ⟨src, tag, rfl⟩ := hstart
      obtain rfl := Option.some.inj h
      rcases lineStartOwner_cases s with hsame | ⟨-, hknown, l, -, -, hstarted⟩
      · exact hsame.symm ▸ hs
      · show (lineStartOwner s).1.RunsKnown
        rw [hstarted]
        intro _
        rw [(s.start_frame l).2.1, hknown]
    · by_cases hclear : ∃ src tag, i = .lineClear src tag
      · obtain ⟨src, tag, rfl⟩ := hclear
        obtain rfl := Option.some.inj h
        rcases lineClearOwner_cases s with hsame | ⟨-, hidle, -⟩
        · exact hsame.symm ▸ hs
        · exact State.runsKnown_of_idle hidle
      · by_cases hreset : ∃ src tag, i = .lineReset src tag
        · obtain ⟨src, tag, rfl⟩ := hreset
          obtain rfl := Option.some.inj h
          rcases lineResetOwner_cases s with hsame | ⟨-, hidle, -⟩
          · exact hsame.symm ▸ hs
          · exact State.runsKnown_of_idle hidle
        · exact (Service.owner_acts h hsettles (fun src tag he => hstart ⟨src, tag, he⟩)
            (fun src tag he => hclear ⟨src, tag, he⟩) (fun src tag he => hreset ⟨src, tag, he⟩) s).runsKnown hs

theorem Service.run_runsKnown {i : Instr} {v : Service} (h : service i = some v) {s : State} (hs : s.RunsKnown) :
    (v.run s).RunsKnown := by
  have hrequest : (takeRequest v.src v.code v.tag (v.parts s) v.owner s).RunsKnown :=
    takeRequest_preserves (P := State.RunsKnown) (fun _ _ => id) (fun _ _ => id)
      (fun _ => Service.owner_runsKnown h) _ _ _ _ hs
  unfold Service.run
  split
  · exact (State.settle_works _).acts.runsKnown hrequest
  · exact hrequest

theorem Service.run_settled {i : Instr} {v : Service} (h : service i = some v) {s : State} (hs : s.Settled) :
    (v.run s).Settled := by
  cases hsettles : v.settles with
  | false => exact (Service.run_calm h hsettles s).deferred.trans hs
  | true =>
    rw [Service.run, hsettles]
    exact State.settle_settled _

theorem State.Piece.settled {i : Option Instr} {s t : State} (h : State.Piece i s t) (hs : s.Settled) : t.Settled := by
  cases h with
  | sample count time => exact State.takeSample_settled count time hs
  | edge src point level count => exact (s.takeEdge_still src point level count).deferred.trans hs
  | motionLost loaded => exact State.settle_settled _
  | serve _ hv => exact Service.run_settled hv hs
  | undecoded src payload => exact (undecodedService_still src payload s).deferred.trans hs

theorem State.Piece.runsKnown {i : Option Instr} {s t : State} (h : State.Piece i s t) (hs : s.RunsKnown) :
    t.RunsKnown := by
  cases h with
  | sample count time => exact fun _ => s.takeSample_state count time
  | edge src point level count => exact (s.takeEdge_still src point level count).toCalm.runsKnown hs
  | motionLost loaded => exact s.motionLost_runsKnown loaded
  | serve _ hv => exact Service.run_runsKnown hv hs
  | undecoded src payload => exact (undecodedService_still src payload s).toCalm.runsKnown hs

/-- Settles O60: every piece that reports an effect ends by taking it; the line runs on only where the position is not
lost, and starts only where it is KNOWN. -/
theorem everyStepTakesItsEffects : Obligations.EveryStepTakesItsEffects := by
  refine ⟨fun s t hs h => ?_, fun s t hs h => ?_⟩
  · exact step_keeps (P := State.Settled) (fun _ _ => id) (fun _ _ _ => rfl) (fun _ _ hp hs => hp.still.deferred.trans hs)
      (fun _ _ _ hp => hp.settled) hs h
  · exact step_keeps (P := State.RunsKnown) (fun _ _ => id) (fun _ _ _ => State.runsKnown_of_idle rfl)
      (fun _ _ hp => hp.still.toCalm.runsKnown) (fun _ _ _ hp => hp.runsKnown) hs h

end Sys2Proof.Machine

/-! ## Settled: the line's transitions -/

namespace Sys2Proof.Machine

/-- A request leaves line and lots alone, or its owner acts in the state that serves it. -/
theorem takeRequest_cases (src code tag : Byte) (parts : Nat) (owner : State → State × Reply) (s : State) :
    s.Still (takeRequest src code tag parts owner s) ∨
      ∃ r, takeRequest src code tag parts owner s = { (owner (s.serving parts)).1 with rif := r } :=
  takeRequest_keeps (fun t => s.Still t ∨ ∃ r, t = { (owner (s.serving parts)).1 with rif := r }) src code tag parts owner s
    (.inl (.refl s)) (.inl .of_eq) (.inl .of_eq) fun _ => .inr ⟨_, rfl⟩

theorem State.Settled.haltsWait {s : State} (h : s.Settled) : s.HaltsWait := by
  intro d hd
  rw [State.Settled] at h
  rw [h] at hd
  exact absurd hd List.not_mem_nil

theorem State.Passing.pos {s t : State} (h : s.Passing t) : t.pos = s.pos := by
  cases h with
  | wire => rfl
  | count => rfl
  | linkDown => exact State.raise_pos _ _ _ s

theorem State.Passings.pos {s t : State} (h : s.Passings t) : t.pos = s.pos :=
  h.keeps (P := fun t => t.pos = s.pos) (fun _ _ hp hs => hp.pos.trans hs) rfl

/-- How a request that settles moves the line: on or not at all, from IDLE to a start, or to IDLE by a clear or a reset. -/
inductive State.Moves (request : Option Instr) (s t : State) : Prop
  | onward (h : s.sup.line.stage ≤ t.sup.line.stage)
  | started (src tag : Byte) (hrequest : request = some (.lineStart src tag)) (hidle : s.sup.line = .idle)
      (hknown : s.pos.state = .known) (hlot : ∃ l ∈ s.lot.table, l.state ≠ .closed)
      (hline : t.sup.line = .run ∨ t.sup.line = .safe)
  | emptied (hrequest : (∃ src tag, request = some (.lineClear src tag)) ∨ ∃ src tag, request = some (.lineReset src tag))
      (hline : t.sup.line = .idle ∨ t.sup.line = .safe)

theorem State.Still.moves {i : Option Instr} {s t u : State} (h : s.Still t) (h' : t.sup.line.stage ≤ u.sup.line.stage) :
    State.Moves i s u :=
  .onward ((Nat.le_of_eq (congrArg LineState.stage h.line.symm)).trans h')

theorem State.settle_stage (s : State) : s.sup.line.stage ≤ s.settle.sup.line.stage := (State.settle_works s).acts.stage_le

theorem LineState.eq_of_stage_ge {l : LineState} (h : LineState.idle.stage ≤ l.stage) : l = .idle ∨ l = .safe := by
  cases l with
  | idle => exact .inl rfl
  | safe => exact .inr rfl
  | run | runout => exact absurd h (by decide)

theorem lineStart_moves (src tag : Byte) {s : State} (hs : s.Settled) :
    State.Moves (some (.lineStart src tag)) s (takeRequest src 13 tag 1 lineStartOwner s).settle := by
  rcases takeRequest_cases src 13 tag 1 lineStartOwner s with hstill | ⟨r, htaken⟩
  · exact hstill.moves (State.settle_stage _)
  · rw [htaken]
    rcases lineStartOwner_cases (s.serving 1) with hsame | ⟨hidle, hknown, l, hl, hopen, hstart⟩
    · rw [hsame]
      exact .onward (State.settle_stage { s.serving 1 with rif := r })
    · rw [hstart]
      obtain ⟨hline, -, hwait⟩ := State.start_frame l (s.serving 1)
      have hserving : (s.serving 1).Settled := hs
      have hstarted := hwait hserving.haltsWait
      generalize (s.serving 1).start l = t at hline hstarted ⊢
      have hhalts : State.HaltsWait { t with rif := r } := hstarted
      refine .started src tag rfl hidle hknown ⟨l, hl, hopen⟩ ?_
      rcases hhalts.settle_line with hstays | hsafe
      · exact .inl (hstays.trans hline)
      · exact .inr hsafe

/-- A request whose owner leaves the state or ends in IDLE. -/
theorem emptied_moves {i : Instr} {src code tag : Byte} {owner : State → State × Reply} {s : State}
    (hi : (∃ src tag, some i = some (.lineClear src tag)) ∨ ∃ src tag, some i = some (.lineReset src tag))
    (howner : (owner (s.serving 1)).1 = s.serving 1 ∨ (owner (s.serving 1)).1.sup.line = .idle) :
    State.Moves (some i) s (takeRequest src code tag 1 owner s).settle := by
  rcases takeRequest_cases src code tag 1 owner s with hstill | ⟨r, htaken⟩
  · exact hstill.moves (State.settle_stage _)
  · rw [htaken]
    rcases howner with hsame | hidle
    · rw [hsame]
      exact .onward (State.settle_stage { s.serving 1 with rif := r })
    · refine .emptied hi (LineState.eq_of_stage_ge ?_)
      refine (Nat.le_of_eq ?_).trans (State.settle_stage _)
      exact congrArg LineState.stage hidle.symm

theorem Service.run_moves {i : Instr} {v : Service} (h : service i = some v) {s : State} (hs : s.Settled) :
    State.Moves (some i) s (v.run s) := by
  cases hsettles : v.settles with
  | false => exact .onward (Nat.le_of_eq (congrArg LineState.stage (Service.run_calm h hsettles s).line.symm))
  | true =>
    by_cases hstart : ∃ src tag, i = .lineStart src tag
    · obtain ⟨src, tag, rfl⟩ := hstart
      exact Option.some.inj h ▸ lineStart_moves src tag hs
    · by_cases hclear : ∃ src tag, i = .lineClear src tag
      · obtain ⟨src, tag, rfl⟩ := hclear
        rw [← Option.some.inj h]
        refine emptied_moves (.inl ⟨src, tag, rfl⟩) ?_
        rcases lineClearOwner_cases (s.serving 1) with hsame | ⟨-, hidle, -⟩
        · exact .inl hsame
        · exact .inr hidle
      · by_cases hreset : ∃ src tag, i = .lineReset src tag
        · obtain ⟨src, tag, rfl⟩ := hreset
          rw [← Option.some.inj h]
          refine emptied_moves (.inr ⟨src, tag, rfl⟩) ?_
          rcases lineResetOwner_cases (s.serving 1) with hsame | ⟨-, hidle, -⟩
          · exact .inl hsame
          · exact .inr hidle
        · have hacts := Service.owner_acts h hsettles (fun src tag he => hstart ⟨src, tag, he⟩)
            (fun src tag he => hclear ⟨src, tag, he⟩) fun src tag he => hreset ⟨src, tag, he⟩
          rw [Service.run, hsettles]
          refine .onward (Nat.le_trans ?_ (State.settle_stage _))
          rcases takeRequest_cases v.src v.code v.tag (v.parts s) v.owner s with hstill | ⟨r, htaken⟩
          · exact Nat.le_of_eq (congrArg LineState.stage hstill.line.symm)
          · rw [htaken]
            exact (hacts (s.serving (v.parts s))).stage_le

theorem State.Piece.moves {i : Option Instr} {s t : State} (h : State.Piece i s t) (hs : s.Settled) :
    State.Moves i s t := by
  cases h with
  | sample count time => exact .onward (s.takeSample_stage count time)
  | edge src point level count => exact (s.takeEdge_still src point level count).moves (Nat.le_refl _)
  | motionLost loaded => exact .onward (s.motionLost_stage loaded)
  | serve hrequest hv => exact hrequest ▸ Service.run_moves hv hs
  | undecoded src payload => exact (undecodedService_still src payload s).moves (Nat.le_refl _)

theorem State.Row.moves {i : Option Instr} {s t : State} (h : State.Row i s t) (hs : s.Settled) : State.Moves i s t := by
  cases h with
  | passings h => exact h.still.moves (Nat.le_refl _)
  | piece hbefore hpiece hafter =>
    have hb := hbefore.still
    have ha := hafter.still
    cases hpiece.moves (hb.deferred.trans hs) with
    | onward h =>
      exact hb.moves (h.trans (Nat.le_of_eq (congrArg LineState.stage ha.line.symm)))
    | started src tag hrequest hidle hknown hlot hline =>
      rw [hb.line] at hidle
      rw [hb.table] at hlot
      rw [hbefore.pos] at hknown
      exact .started src tag hrequest hidle hknown hlot (ha.line ▸ hline)
    | emptied hrequest hline => exact .emptied hrequest (ha.line ▸ hline)

/-- Settles O45: the work of a command moves the line on, but for a start and the two requests that empty the line. -/
theorem lineMovesByTheTransitions : Obligations.LineMovesByTheTransitions := by
  intro i s t hs h
  by_cases hi : ∃ strap, i = .powerOnReset strap
  · obtain ⟨strap, rfl⟩ := hi
    obtain rfl := Host.Outcome.next.inj h
    exact ⟨fun h => absurd h (by decide : LineState.idle ≠ .run), fun _ => .inr ⟨rfl, .inl ⟨strap, rfl⟩⟩,
      fun h => absurd h (by decide : LineState.idle ≠ .runout)⟩
  · obtain ⟨u, hu, hrow⟩ := exec_row i s fun strap he => hi ⟨strap, he⟩
    obtain rfl := Host.Outcome.next.inj (hu.symm.trans h)
    cases hrow.moves hs with
    | onward hstage =>
      cases hline : s.sup.line <;> cases hline' : u.sup.line <;> simp_all [LineState.stage]
    | started src tag hrequest hidle hknown hlot hline =>
      refine ⟨fun _ => .inr ⟨hidle, hknown, hlot, src, tag, hrequest⟩, fun hsafe => ?_, fun hrunout => ?_⟩
      · exact absurd (hidle.symm.trans hsafe) (by decide)
      · rcases hline with hline | hline <;> exact absurd (hline.symm.trans hrunout) (by decide)
    | emptied hrequest hline =>
      refine ⟨fun hrun => ?_, fun hsafe => ?_, fun hrunout => ?_⟩
      · rcases hline with hline | hline <;> exact absurd (hline.symm.trans hrun) (by decide)
      · rcases hline with hline | hline
        · exact .inr ⟨hline, .inr hrequest⟩
        · exact .inl hline
      · rcases hline with hline | hline <;> exact absurd (hline.symm.trans hrunout) (by decide)

end Sys2Proof.Machine

/-! ## The lot table, said once: what keeps its order, its keys and the count of its records -/

namespace Sys2Proof.Machine

/-- A lot's key, state and in-flight count. -/
abbrev Standing := LotKey × LotState × Nat

/-- The laws of the lot table (R130, R131, R133), over the standings of its lots and the lots of the records in flight. -/
structure LotsSound (table : List Standing) (flights : List LotKey) : Prop where
  ranks : (table.map fun x => x.2.1.rank).Pairwise fun a b => a ≤ b
  cutting : (table.countP fun x => x.2.1 == .cutting) ≤ 1
  keys : (table.map Prod.fst).Nodup
  known : ∀ k ∈ flights, ∃ x ∈ table, x.1 = k
  counted : ∀ x ∈ table, x.2.2 = flights.count x.1
  waiting : ∀ x ∈ table, x.2.1 = .queued → x.2.2 = 0

def State.standings (s : State) : List Standing := s.lot.table.map Lot.standing

def State.flights (s : State) : List LotKey := s.trq.queue.map Record.lot

theorem countP_flights (k : LotKey) (q : List Record) : (q.countP fun r => r.lot == k) = (q.map Record.lot).count k := by
  rw [List.count, List.countP_map]
  rfl

/-- The laws of the state and those over standings and flights are one. -/
theorem State.lotsSound_iff (s : State) : LotsSound s.standings s.flights ↔ s.LotsOrdered ∧ s.FlightsCounted := by
  unfold State.standings State.flights
  constructor
  · rintro ⟨hranks, hcutting, hkeys, hknown, hcounted, hwaiting⟩
    rw [List.map_map] at hranks hkeys
    rw [List.countP_map] at hcutting
    refine ⟨⟨hranks, hcutting, hkeys⟩, fun r hr => ?_, fun l hl => ?_⟩
    · obtain ⟨x, hx, hk⟩ := hknown r.lot (List.mem_map_of_mem hr)
      obtain ⟨l, hl, rfl⟩ := List.mem_map.mp hx
      exact ⟨l, hl, hk⟩
    · rw [countP_flights]
      exact ⟨hcounted l.standing (List.mem_map_of_mem hl), hwaiting l.standing (List.mem_map_of_mem hl)⟩
  · rintro ⟨⟨hranks, hcutting, hkeys⟩, hknown, hcounted⟩
    refine ⟨?_, ?_, ?_, fun k hk => ?_, fun x hx => ?_, fun x hx => ?_⟩
    · rw [List.map_map]
      exact hranks
    · rw [List.countP_map]
      exact hcutting
    · rw [List.map_map]
      exact hkeys
    · obtain ⟨r, hr, rfl⟩ := List.mem_map.mp hk
      obtain ⟨l, hl, hk⟩ := hknown r hr
      exact ⟨l.standing, List.mem_map_of_mem hl, hk⟩
    · obtain ⟨l, hl, rfl⟩ := List.mem_map.mp hx
      rw [← countP_flights]
      exact (hcounted l hl).1
    · obtain ⟨l, hl, rfl⟩ := List.mem_map.mp hx
      exact (hcounted l hl).2

/-! ### Changes of the table -/

/-- A standing with its records counted anew. -/
def recount (flights : List LotKey) (x : Standing) : Standing := (x.1, x.2.1, flights.count x.1)

theorem LotsSound.recounted {T : List Standing} {F F' : List LotKey} (h : LotsSound T F)
    (hknown : ∀ k ∈ F', ∃ x ∈ T, x.1 = k) (hwaiting : ∀ x ∈ T, x.2.1 = .queued → F'.count x.1 = 0) :
    LotsSound (T.map (recount F')) F' where
  ranks := by
    rw [List.map_map]
    exact h.ranks
  cutting := by
    rw [List.countP_map]
    exact h.cutting
  keys := by
    rw [List.map_map]
    exact h.keys
  known := fun k hk => by
    obtain ⟨x, hx, hk⟩ := hknown k hk
    exact ⟨recount F' x, List.mem_map_of_mem hx, hk⟩
  counted := fun x hx => by
    obtain ⟨y, -, rfl⟩ := List.mem_map.mp hx
    rfl
  waiting := fun x hx hq => by
    obtain ⟨y, hy, rfl⟩ := List.mem_map.mp hx
    exact hwaiting y hy hq

/-- The standings of one key changed. -/
def changeAt (k : LotKey) (g : Standing → Standing) (T : List Standing) : List Standing :=
  T.map fun x => if x.1 = k then g x else x

theorem State.writeLot_standings {k : LotKey} {f : Lot → Lot} (g : Standing → Standing) {s : State}
    (h : ∀ l, (f l).standing = g l.standing := by intros; rfl) :
    (s.writeLot k f).standings = changeAt k g s.standings := by
  unfold State.standings changeAt
  rw [List.map_map]
  show List.map Lot.standing (s.lot.table.map fun l => if l.key = k then f l else l) = _
  rw [List.map_map]
  refine List.map_congr_left fun l _ => ?_
  show Lot.standing (if l.key = k then f l else l) = if l.key = k then g l.standing else l.standing
  split
  · exact h l
  · rfl

/-- A cut adds a record of the lot's (R138). -/
theorem LotsSound.cut {T : List Standing} {F : List LotKey} (h : LotsSound T F) {k : LotKey}
    (hk : ∃ x ∈ T, x.1 = k ∧ x.2.1 ≠ .queued) :
    LotsSound (changeAt k (fun x => (x.1, x.2.1, x.2.2 + 1)) T) (F ++ [k]) := by
  obtain ⟨x, hx, hxk, hopen⟩ := hk
  have hchange : changeAt k (fun x => (x.1, x.2.1, x.2.2 + 1)) T = T.map (recount (F ++ [k])) := by
    refine List.map_congr_left fun y hy => ?_
    have hcounted := h.counted y hy
    by_cases hyk : y.1 = k
    · rw [if_pos hyk, recount, List.count_append, ← hcounted, hyk, List.count_singleton_self, ← hyk]
    · rw [if_neg hyk, recount, List.count_append, ← hcounted, List.count_singleton, if_neg (by simpa using Ne.symm hyk)]
      rfl
  rw [hchange]
  refine h.recounted (fun k' hk' => ?_) fun y hy hq => ?_
  · rcases List.mem_append.mp hk' with hold | hnew
    · exact h.known k' hold
    · exact ⟨x, hx, hxk.trans (List.mem_singleton.mp hnew).symm⟩
  · have hyk : y.1 ≠ k := fun he => by
      have hsame : y = x := List.inj_on_of_nodup_map h.keys hy hx (he.trans hxk.symm)
      exact hopen (hsame ▸ hq)
    rw [List.count_append, ← h.counted y hy, h.waiting y hy hq, List.count_singleton, if_neg (by simpa using Ne.symm hyk)]

/-- A record that leaves is one less in flight (R118, R142). -/
theorem LotsSound.leave {T : List Standing} {F : List LotKey} {k : LotKey} (h : LotsSound T (k :: F)) :
    LotsSound (changeAt k (fun x => (x.1, x.2.1, x.2.2 - 1)) T) F := by
  have hchange : changeAt k (fun x => (x.1, x.2.1, x.2.2 - 1)) T = T.map (recount F) := by
    refine List.map_congr_left fun y hy => ?_
    have hcounted := h.counted y hy
    by_cases hyk : y.1 = k
    · have hless : y.2.2 - 1 = F.count y.1 := by
        rw [hcounted, hyk, List.count_cons_self, Nat.add_sub_cancel]
      rw [if_pos hyk, recount, ← hless]
    · rw [List.count_cons_of_ne (Ne.symm hyk)] at hcounted
      rw [if_neg hyk, recount, ← hcounted]
  rw [hchange]
  refine h.recounted (fun k' hk' => h.known k' (List.mem_cons_of_mem k hk')) fun y hy hq => ?_
  have hnone := h.waiting y hy hq
  rw [h.counted y hy, List.count_cons] at hnone
  omega

/-- A lot without records is removed. -/
theorem LotsSound.remove {T : List Standing} {F : List LotKey} (h : LotsSound T F) {k : LotKey} (hk : F.count k = 0) :
    LotsSound (T.filter fun x => x.1 != k) F where
  ranks := h.ranks.sublist (List.filter_sublist.map _)
  cutting := List.filter_sublist.countP_le.trans h.cutting
  keys := h.keys.sublist (List.filter_sublist.map _)
  known := fun k' hk' => by
    obtain ⟨x, hx, hxk⟩ := h.known k' hk'
    refine ⟨x, List.mem_filter.mpr ⟨hx, ?_⟩, hxk⟩
    have hne : x.1 ≠ k := fun he => List.count_eq_zero.mp hk (he ▸ hxk ▸ hk')
    simpa using hne
  counted := fun x hx => h.counted x (List.mem_of_mem_filter hx)
  waiting := fun x hx => h.waiting x (List.mem_of_mem_filter hx)

/-- A QUEUED lot without records joins ahead of QUEUED lots alone. -/
theorem LotsSound.insert {A B : List Standing} {F : List LotKey} (h : LotsSound (A ++ B) F) {k : LotKey}
    (hB : ∀ b, B.head? = some b → b.2.1 = .queued) (hfresh : ∀ x ∈ A ++ B, x.1 ≠ k) :
    LotsSound (A ++ (k, .queued, 0) :: B) F := by
  have hcount : F.count k = 0 := List.count_eq_zero.mpr fun hk => by
    obtain ⟨x, hx, hxk⟩ := h.known k hk
    exact hfresh x hx hxk
  have hmem (x : Standing) : x ∈ A ++ (k, .queued, 0) :: B ↔ x = (k, .queued, 0) ∨ x ∈ A ++ B := by
    simp only [List.mem_append, List.mem_cons]
    tauto
  have hqueued : ∀ b ∈ B, b.2.1 = .queued := by
    cases B with
    | nil => exact fun _ hb => absurd hb List.not_mem_nil
    | cons b rest =>
      intro c hc
      have hhead := hB b rfl
      rcases List.mem_cons.mp hc with rfl | hrest
      · exact hhead
      · have hranks := h.ranks
        rw [List.map_append, List.pairwise_append, List.map_cons, List.pairwise_cons] at hranks
        have hle := hranks.2.1.1 c.2.1.rank (List.mem_map.mpr ⟨c, hrest, rfl⟩)
        rw [hhead] at hle
        revert hle
        cases c.2.1 <;> simp [LotState.rank]
  refine ⟨?_, ?_, ?_, fun k' hk' => ?_, fun x hx => ?_, fun x hx hq => ?_⟩
  · have hranks := h.ranks
    rw [List.map_append, List.pairwise_append] at hranks
    obtain ⟨hA, hBranks, -⟩ := hranks
    rw [List.map_append, List.map_cons, List.pairwise_append, List.pairwise_cons]
    have htop (a : Standing) : a.2.1.rank ≤ LotState.queued.rank := by cases a.2.1 <;> decide
    refine ⟨hA, ⟨fun b hb => ?_, hBranks⟩, fun a ha b hb => ?_⟩
    · obtain ⟨y, hy, rfl⟩ := List.mem_map.mp hb
      rw [hqueued y hy]
    · obtain ⟨x, -, rfl⟩ := List.mem_map.mp ha
      rcases List.mem_cons.mp hb with rfl | hb
      · exact htop x
      · obtain ⟨y, hy, rfl⟩ := List.mem_map.mp hb
        rw [hqueued y hy]
        exact htop x
  · have hcutting := h.cutting
    rw [List.countP_append] at hcutting ⊢
    rw [List.countP_cons_of_neg (by simp)]
    exact hcutting
  · have hkeys := h.keys
    rw [List.map_append] at hkeys ⊢
    rw [List.map_cons, List.nodup_middle, List.nodup_cons, ← List.map_append]
    refine ⟨fun hk => ?_, by rwa [List.map_append]⟩
    obtain ⟨x, hx, hxk⟩ := List.mem_map.mp hk
    exact hfresh x hx hxk
  · obtain ⟨x, hx, hxk⟩ := h.known k' hk'
    exact ⟨x, (hmem x).mpr (.inr hx), hxk⟩
  · rcases (hmem x).mp hx with rfl | hold
    · exact hcount.symm
    · exact h.counted x hold
  · rcases (hmem x).mp hx with rfl | hold
    · rfl
    · exact h.waiting x hold hq

/-- One standing of the table exchanged, its key and count kept. -/
theorem changeAt_middle {A B : List Standing} {x : Standing} (hkeys : ((A ++ x :: B).map Prod.fst).Nodup)
    (g : Standing → Standing) : changeAt x.1 g (A ++ x :: B) = A ++ g x :: B := by
  rw [List.map_append, List.map_cons, List.nodup_middle, List.nodup_cons, ← List.map_append] at hkeys
  have hother (y : Standing) (hy : y ∈ A ++ B) : (if y.1 = x.1 then g y else y) = y :=
    if_neg fun he => hkeys.1 (List.mem_map.mpr ⟨y, hy, he⟩)
  unfold changeAt
  rw [List.map_append, List.map_cons, if_pos rfl]
  congr 1
  · exact (List.map_congr_left fun y hy => hother y (List.mem_append_left B hy)).trans (List.map_id A)
  · congr 1
    exact (List.map_congr_left fun y hy => hother y (List.mem_append_right A hy)).trans (List.map_id B)

/-- A lot that changes its state where the order admits it. -/
theorem LotsSound.restate {A B : List Standing} {x : Standing} {st : LotState} {F : List LotKey}
    (h : LotsSound (A ++ x :: B) F) (hbelow : ∀ a ∈ A, a.2.1.rank ≤ st.rank) (habove : ∀ b ∈ B, st.rank ≤ b.2.1.rank)
    (hcutting : st = .cutting → ∀ y ∈ A ++ B, y.2.1 ≠ .cutting) (hqueued : st ≠ .queued) :
    LotsSound (A ++ (x.1, st, x.2.2) :: B) F := by
  have hmem (y z : Standing) : y ∈ A ++ z :: B ↔ y = z ∨ y ∈ A ++ B := by
    simp only [List.mem_append, List.mem_cons]
    tauto
  refine ⟨?_, ?_, ?_, fun k hk => ?_, fun y hy => ?_, fun y hy hq => ?_⟩
  · have hranks := h.ranks
    rw [List.map_append, List.map_cons, List.pairwise_append, List.pairwise_cons] at hranks ⊢
    obtain ⟨hA, ⟨-, hB⟩, hAB⟩ := hranks
    refine ⟨hA, ⟨fun b hb => ?_, hB⟩, fun a ha b hb => ?_⟩
    · obtain ⟨y, hy, rfl⟩ := List.mem_map.mp hb
      exact habove y hy
    · rcases List.mem_cons.mp hb with rfl | hb
      · obtain ⟨y, hy, rfl⟩ := List.mem_map.mp ha
        exact hbelow y hy
      · exact hAB a ha b (List.mem_cons_of_mem _ hb)
  · have hcount := h.cutting
    rw [List.countP_append, List.countP_cons] at hcount ⊢
    by_cases hst : st = .cutting
    · have hnone := hcutting hst
      have hzero (l : List Standing) (hl : ∀ y ∈ l, y.2.1 ≠ .cutting) : (l.countP fun y => y.2.1 == .cutting) = 0 :=
        List.countP_eq_zero.mpr fun y hy => by simpa using hl y hy
      rw [hzero A fun y hy => hnone y (List.mem_append_left B hy), hzero B fun y hy => hnone y (List.mem_append_right A hy)]
      split <;> omega
    · rw [if_neg (by simpa using hst)]
      omega
  · have hkeys := h.keys
    rw [List.map_append, List.map_cons] at hkeys ⊢
    exact hkeys
  · obtain ⟨y, hy, hyk⟩ := h.known k hk
    rcases (hmem y x).mp hy with rfl | hold
    · exact ⟨_, (hmem _ _).mpr (.inl rfl), hyk⟩
    · exact ⟨y, (hmem _ _).mpr (.inr hold), hyk⟩
  · rcases (hmem _ _).mp hy with rfl | hold
    · exact h.counted x ((hmem _ _).mpr (.inl rfl))
    · exact h.counted y ((hmem _ _).mpr (.inr hold))
  · rcases (hmem _ _).mp hy with rfl | hold
    · exact absurd hq hqueued
    · exact h.waiting y ((hmem _ _).mpr (.inr hold)) hq

/-- The CUTTING lot closes (R136). -/
theorem LotsSound.close {T : List Standing} {F : List LotKey} (h : LotsSound T F) {k : LotKey}
    (hk : ∃ x ∈ T, x.1 = k ∧ x.2.1 = .cutting) :
    LotsSound (changeAt k (fun x => (x.1, .closed, x.2.2)) T) F ∧
      ∀ y ∈ changeAt k (fun x => (x.1, .closed, x.2.2)) T, y.2.1 ≠ .cutting := by
  obtain ⟨x, hx, rfl, hcut⟩ := hk
  obtain ⟨A, B, rfl⟩ := List.append_of_mem hx
  have hcount := h.cutting
  rw [List.countP_append, List.countP_cons, if_pos (by simpa using hcut)] at hcount
  have hA : ∀ a ∈ A, a.2.1 ≠ .cutting := fun a ha => by
    simpa using List.countP_eq_zero.mp (by omega : A.countP (fun y => y.2.1 == .cutting) = 0) a ha
  have hB : ∀ b ∈ B, b.2.1 ≠ .cutting := fun b hb => by
    simpa using List.countP_eq_zero.mp (by omega : B.countP (fun y => y.2.1 == .cutting) = 0) b hb
  rw [changeAt_middle h.keys]
  refine ⟨h.restate (fun a ha => ?_) (fun b _ => Nat.zero_le _) (fun hc => absurd hc (by decide)) (by decide), ?_⟩
  · have hranks := h.ranks
    rw [List.map_append, List.map_cons, List.pairwise_append] at hranks
    have hle := hranks.2.2 a.2.1.rank (List.mem_map.mpr ⟨a, ha, rfl⟩) x.2.1.rank (List.mem_cons_self ..)
    have hne := hA a ha
    rw [hcut] at hle
    revert hle hne
    cases a.2.1 <;> simp [LotState.rank]
  · intro y hy
    rcases List.mem_append.mp hy with ha | hb
    · exact hA y ha
    · rcases List.mem_cons.mp hb with rfl | hb
      · exact fun hc => absurd hc LotState.noConfusion
      · exact hB y hb

/-- The head QUEUED lot is admitted where no lot is CUTTING (R137). -/
theorem LotsSound.becomesCutting {A B : List Standing} {x : Standing} {F : List LotKey} (h : LotsSound (A ++ x :: B) F)
    (hx : x.2.1 = .queued) (hA : ∀ a ∈ A, a.2.1 ≠ .queued) (hcutting : ∀ y ∈ A ++ x :: B, y.2.1 ≠ .cutting) :
    LotsSound (changeAt x.1 (fun x => (x.1, .cutting, x.2.2)) (A ++ x :: B)) F := by
  rw [changeAt_middle h.keys]
  refine h.restate (fun a ha => ?_) (fun b hb => ?_) (fun _ y hy => ?_) (by decide)
  · have hne := hA a ha
    revert hne
    cases a.2.1 <;> simp [LotState.rank]
  · have hranks := h.ranks
    rw [List.map_append, List.map_cons, List.pairwise_append, List.pairwise_cons] at hranks
    have hle := hranks.2.1.1 b.2.1.rank (List.mem_map.mpr ⟨b, hb, rfl⟩)
    rw [hx] at hle
    exact Nat.le_of_succ_le hle
  · refine hcutting y ?_
    simp only [List.mem_append, List.mem_cons] at hy ⊢
    tauto

/-- A make-up lot joins ahead of QUEUED lots alone. -/
theorem placeMakeUp_split (skip : Nat) (new : Lot) (l : List Lot) :
    ∃ A B, l = A ++ B ∧ placeMakeUp skip new l = A ++ new :: B ∧ ∀ b, B.head? = some b → b.state = .queued := by
  induction l generalizing skip with
  | nil => exact ⟨[], [], rfl, rfl, fun _ hb => by contradiction⟩
  | cons x rest ih =>
    have hafter (n : Nat) : ∃ A B, x :: rest = A ++ B ∧ x :: placeMakeUp n new rest = A ++ new :: B ∧
        ∀ b, B.head? = some b → b.state = .queued := by
      obtain ⟨A, B, hsplit, hplaced, hB⟩ := ih n
      exact ⟨x :: A, B, congrArg (x :: ·) hsplit, congrArg (x :: ·) hplaced, hB⟩
    unfold placeMakeUp
    split
    · next hqueued =>
      cases skip with
      | zero => exact ⟨[], x :: rest, rfl, rfl, fun b hb => Option.some.inj hb ▸ hqueued⟩
      | succ n => exact hafter n
    · exact hafter skip

end Sys2Proof.Machine

/-! ## Settled: every step keeps the lot table -/

namespace Sys2Proof.Machine

/-- The laws of the lot table in a state. -/
def State.Sound (s : State) : Prop := LotsSound s.standings s.flights

/-! ### Works keep the table -/

theorem State.Work.flights {s t : State} (h : s.Work t) : t.flights = s.flights := by
  cases h with
  | raise | place | notice => simp [State.flights]
  | records q _ h => exact h
  | _ => rfl

theorem State.Work.standings {s t : State} (h : s.Work t) (hkeys : (s.standings.map Prod.fst).Nodup) :
    t.standings = s.standings := by
  cases h with
  | raise | place | notice => simp [State.standings]
  | lots l _ _ h =>
    refine h ?_
    unfold State.standings at hkeys
    rw [List.map_map] at hkeys
    exact hkeys
  | _ => rfl

theorem State.Works.lots {s t : State} (h : s.Works t) (hkeys : (s.standings.map Prod.fst).Nodup) :
    t.standings = s.standings ∧ t.flights = s.flights :=
  State.Works.keeps (P := fun u => u.standings = s.standings ∧ u.flights = s.flights)
    (fun _ _ hw hu => ⟨(hw.standings (hu.1 ▸ hkeys)).trans hu.1, hw.flights.trans hu.2⟩) h ⟨rfl, rfl⟩

theorem State.Works.keepsLots {s t : State} {F : List LotKey} (h : s.Works t) (hs : LotsSound s.standings F) :
    LotsSound t.standings F := (h.lots hs.keys).1 ▸ hs

theorem State.Works.sound {s t : State} (h : s.Works t) (hs : s.Sound) : t.Sound := by
  obtain ⟨htable, hflights⟩ := h.lots hs.keys
  rw [State.Sound, htable, hflights]
  exact hs

/-! ### Lot end (R139, R140) -/

theorem State.dissolveLot_table (l : Lot) (skip : Nat) (s : State) :
    (s.dissolveLot l skip).1.lot.table =
      if s.makeUpOutcome l = .made then
        placeMakeUp skip (Lot.create (makeUpKey l.key) l.format (l.target - l.stacked) l.batchSize true)
          (s.lot.table.filter fun x => x.key != l.key)
      else s.lot.table.filter fun x => x.key != l.key := rfl

theorem State.filter_standings (k : LotKey) (l : List Lot) :
    (l.filter fun x => x.key != k).map Lot.standing = (l.map Lot.standing).filter fun x => x.1 != k := by
  rw [List.filter_map]
  rfl

/-- A lot's end removes its standing and may add a QUEUED one. -/
theorem State.dissolveLot_sound {l : Lot} (skip : Nat) {s : State} {F : List LotKey} (h : LotsSound s.standings F)
    (hnone : F.count l.key = 0) :
    LotsSound (s.dissolveLot l skip).1.standings F ∧
      ∀ y ∈ (s.dissolveLot l skip).1.standings, y ∈ s.standings ∨ y.2.1 = .queued := by
  have hremoved := h.remove hnone
  unfold State.standings at hremoved ⊢
  rw [← State.filter_standings] at hremoved
  have hold (y : Standing) (hy : y ∈ (s.lot.table.filter fun x => x.key != l.key).map Lot.standing) :
      y ∈ s.lot.table.map Lot.standing := List.filter_sublist.map Lot.standing |>.subset hy
  rw [State.dissolveLot_table]
  by_cases hmade : s.makeUpOutcome l = .made
  · rw [if_pos hmade]
    obtain ⟨-, -, -, hfresh⟩ := State.makeUpOutcome_made hmade
    obtain ⟨A, B, hsplit, hplaced, hB⟩ := placeMakeUp_split skip
      (Lot.create (makeUpKey l.key) l.format (l.target - l.stacked) l.batchSize true)
      (s.lot.table.filter fun x => x.key != l.key)
    rw [hplaced, List.map_append, List.map_cons]
    rw [hsplit, List.map_append] at hremoved hold
    refine ⟨hremoved.insert (fun b hb => ?_) (fun x hx hxk => ?_), fun y hy => ?_⟩
    · rw [List.head?_map] at hb
      obtain ⟨b', hb', rfl⟩ := Option.map_eq_some_iff.mp hb
      exact hB b' hb'
    · rw [← List.map_append, ← hsplit] at hx
      obtain ⟨x', hx', rfl⟩ := List.mem_map.mp hx
      obtain ⟨hmem, hne⟩ := List.mem_filter.mp hx'
      exact hfresh x' hmem (by simpa using hne) hxk
    · rcases List.mem_append.mp hy with ha | hb
      · exact .inl (hold y (List.mem_append_left _ ha))
      · rcases List.mem_cons.mp hb with rfl | hb
        · exact .inr rfl
        · exact .inl (hold y (List.mem_append_right _ hb))
  · rw [if_neg hmade]
    exact ⟨hremoved, fun y hy => .inl (hold y hy)⟩

theorem State.endLot_sound {k : LotKey} (skip : Nat) {s : State} {F : List LotKey} (h : LotsSound s.standings F)
    (hnone : F.count k = 0) :
    LotsSound (s.endLot k skip).1.standings F ∧
      ∀ y ∈ (s.endLot k skip).1.standings, y ∈ s.standings ∨ y.2.1 = .queued := by
  cases hfound : s.findLot k with
  | none =>
    rw [State.endLot_missing hfound]
    exact ⟨h, fun _ hy => .inl hy⟩
  | some l =>
    have hkey : l.key = k := State.findLot_key hfound
    by_cases hlast : 0 < l.delivered ∨ l.contaminated = true
    · have hlots := ((s.completeBatch_works k true).lots h.keys).1
      rw [State.endLot_batch hfound skip hlast, ← hlots]
      exact State.dissolveLot_sound (l := l.batchDone) skip (hlots ▸ h) (hkey ▸ hnone)
    · rw [State.endLot_clean hfound skip hlast]
      exact State.dissolveLot_sound skip h (hkey ▸ hnone)

theorem State.dissolveLot_flights (l : Lot) (skip : Nat) (s : State) : (s.dissolveLot l skip).1.flights = s.flights := by
  show ((s.notice _).trq.queue.map Record.lot) = _
  rw [State.notice_trq]
  rfl

theorem State.endLot_flights (k : LotKey) (skip : Nat) (s : State) : (s.endLot k skip).1.flights = s.flights := by
  have hbatch : (s.completeBatch k true).flights = s.flights :=
    State.Works.keeps (P := fun u => u.flights = s.flights) (fun _ _ hw hu => hw.flights.trans hu)
      (s.completeBatch_works k true) rfl
  cases hfound : s.findLot k with
  | none => rw [State.endLot_missing hfound]
  | some l =>
    by_cases hlast : 0 < l.delivered ∨ l.contaminated = true
    · rw [State.endLot_batch hfound skip hlast, State.dissolveLot_flights, hbatch]
    · rw [State.endLot_clean hfound skip hlast, State.dissolveLot_flights]

theorem State.endIfDone_sound (k : LotKey) {s : State} {F : List LotKey} (h : LotsSound s.standings F) :
    LotsSound (s.endIfDone k).standings F ∧ ∀ y ∈ (s.endIfDone k).standings, y ∈ s.standings ∨ y.2.1 = .queued := by
  unfold State.endIfDone
  split
  · exact ⟨h, fun _ hy => .inl hy⟩
  · next l hfound =>
    split
    · next hdone =>
      refine State.endLot_sound 0 h ?_
      have hcounted := h.counted l.standing (List.mem_map_of_mem (State.findLot_mem hfound))
      rw [← State.findLot_key hfound]
      exact hcounted.symm.trans hdone.2
    · exact ⟨h, fun _ hy => .inl hy⟩

theorem State.endIfDone_flights (k : LotKey) (s : State) : (s.endIfDone k).flights = s.flights := by
  unfold State.endIfDone
  split
  · rfl
  · split
    · exact s.endLot_flights k 0
    · rfl

/-! ### Retirement (R118) -/

theorem Lot.retire_standing (l : Lot) (f : Option Final) :
    (l.retire f).standing = (l.key, l.state, l.inFlight - 1) := by
  unfold Lot.retire
  split <;> rfl

theorem State.retireLot_sound {r : Record} {s : State} {F : List LotKey} (h : LotsSound s.standings (r.lot :: F)) :
    LotsSound (s.retireLot r).standings F := by
  have hcounted : LotsSound (s.writeLot r.lot fun l => l.retire r.final).standings F := by
    rw [State.writeLot_standings (fun x => (x.1, x.2.1, x.2.2 - 1)) fun l => l.retire_standing r.final]
    exact h.leave
  have hmoved := (State.moveDeadlines_works _).keepsLots hcounted
  unfold State.retireLot
  dsimp only
  refine (State.endIfDone_sound r.lot ?_).1
  split
  · exact (State.completeBatch_works _ _ _).keepsLots hmoved
  · split
    · exact (State.completeBatch_works _ _ _).keepsLots hmoved
    · exact hmoved

theorem State.trqAdvance_sound (previous new : Nat) {s : State} (h : s.Sound) : (s.trqAdvance previous new).Sound := by
  unfold State.trqAdvance
  split
  · split
    · exact h
    · next r rest hqueue =>
      dsimp only
      split
      · have hflights : s.flights = r.lot :: rest.map Record.lot := by rw [State.flights, hqueue, List.map_cons]
        have hretired : State.Sound { s.retireLot r with trq := { (s.retireLot r).trq with queue := rest } } := by
          rw [State.Sound, hflights] at h
          exact State.retireLot_sound h
        split
        · next hdone => exact (State.completeRunout_works (by rw [hdone.2]; decide)).sound hretired
        · exact hretired
      · exact h
  · exact h

/-! ### Cuts (R135 to R138) -/

theorem State.cutFor_sound {l : Lot} (pitch : Nat) {s : State} (h : s.Sound)
    (hl : ∃ x ∈ s.standings, x.1 = l.key ∧ x.2.1 ≠ .queued) : (s.cutFor l pitch).Sound := by
  have hwritten : (s.writeLot l.key fun x => { x with cut := countUp x.cut, inFlight := x.inFlight + 1 }).standings =
      changeAt l.key (fun x => (x.1, x.2.1, x.2.2 + 1)) s.standings :=
    State.writeLot_standings fun x => (x.1, x.2.1, x.2.2 + 1)
  have hcut := LotsSound.cut h hl
  rw [← hwritten] at hcut
  unfold State.cutFor State.createRecord
  refine (((State.regCreate_works _ _).trans (State.camCreate_works _ _)).trans (State.chkCreate_works _ _)).sound ?_
  unfold State.Sound State.flights
  dsimp only
  rw [List.map_append]
  exact hcut

theorem State.cuttingLot_some {l : Lot} {s : State} (h : s.cuttingLot = some l) :
    ∃ x ∈ s.standings, x.1 = l.key ∧ x.2.1 = .cutting := by
  have hstate : l.state = .cutting := by simpa using List.find?_some h
  exact ⟨l.standing, List.mem_map_of_mem (List.mem_of_find?_eq_some h), rfl, hstate⟩

theorem State.cuttingLot_none {s : State} (h : s.cuttingLot = none) : ∀ y ∈ s.standings, y.2.1 ≠ .cutting := by
  intro y hy
  obtain ⟨l, hl, rfl⟩ := List.mem_map.mp hy
  have hnot := List.find?_eq_none.mp h l hl
  have hstate : l.state ≠ .cutting := by simpa using hnot
  exact hstate

theorem State.admitLot_sound {l : Lot} (pitch : Nat) {s : State} (h : s.Sound) (hhead : s.headQueued = some l)
    (hcutting : ∀ y ∈ s.standings, y.2.1 ≠ .cutting) : (s.admitLot l pitch).Sound := by
  have hasked := s.askFormat_works l.format
  obtain ⟨hstandings, -⟩ := hasked.lots h.keys
  have hsound := hasked.sound h
  unfold State.admitLot
  dsimp only
  generalize s.askFormat l.format = asked at hstandings hsound
  split
  · exact (State.raise_works _ _ _ _).sound hsound
  · exact (State.raise_works _ _ _ _).sound hsound
  · split
    · exact (State.raise_works _ _ _ _).sound hsound
    · split
      · exact (State.defer_works _ _).sound hsound
      · have hqueued : l.state = .queued := by simpa using List.find?_some hhead
        obtain ⟨A, B, hsplit, hA⟩ := (List.find?_eq_some_iff_append.mp hhead).2
        have htable : s.standings = A.map Lot.standing ++ l.standing :: B.map Lot.standing := by
          rw [State.standings, hsplit, List.map_append, List.map_cons]
        have hwritten : (asked.2.writeLot l.key fun x => { x with state := .cutting }).standings =
            changeAt l.key (fun x => (x.1, .cutting, x.2.2)) asked.2.standings :=
          State.writeLot_standings fun x => (x.1, .cutting, x.2.2)
        rw [hstandings] at hwritten
        refine State.cutFor_sound pitch ?_ ?_
        · rw [State.Sound, hwritten, htable]
          rw [State.Sound, hstandings, htable] at hsound
          rw [htable] at hcutting
          refine hsound.becomesCutting (x := l.standing) hqueued (fun a ha => ?_) hcutting
          obtain ⟨a', ha', rfl⟩ := List.mem_map.mp ha
          have hstate : a'.state ≠ .queued := by simpa using hA a' ha'
          exact hstate
        · rw [hwritten]
          refine ⟨(l.key, .cutting, l.inFlight), List.mem_map.mpr ⟨l.standing, ?_, if_pos rfl⟩, rfl, LotState.noConfusion⟩
          rw [htable]
          simp

theorem State.admitNext_sound (pitch : Nat) {s : State} (h : s.Sound) (hcutting : ∀ y ∈ s.standings, y.2.1 ≠ .cutting) :
    (s.admitNext pitch).Sound := by
  unfold State.admitNext
  split
  · next l hhead => exact State.admitLot_sound pitch h hhead hcutting
  · exact (s.defer_works _).sound h

theorem State.cutDecision_sound (pitch : Nat) {s : State} (h : s.Sound) : (s.cutDecision pitch).Sound := by
  unfold State.cutDecision
  split
  · exact h
  · split
    · next l hl =>
      have hcut := State.cuttingLot_some hl
      split
      · refine State.cutFor_sound pitch h ?_
        obtain ⟨x, hx, hxk, hst⟩ := hcut
        exact ⟨x, hx, hxk, fun hq => absurd (hst.symm.trans hq) (by decide)⟩
      · have hwritten : (s.writeLot l.key fun x => { x with state := .closed }).standings =
            changeAt l.key (fun x => (x.1, .closed, x.2.2)) s.standings :=
          State.writeLot_standings fun x => (x.1, .closed, x.2.2)
        obtain ⟨hclosed, hnocut⟩ := LotsSound.close h hcut
        rw [← hwritten] at hclosed hnocut
        obtain ⟨hended, hmem⟩ := State.endIfDone_sound l.key hclosed
        refine State.admitNext_sound pitch ?_ fun y hy => ?_
        · rw [State.Sound, State.closeLot, State.endIfDone_flights]
          exact hended
        · rcases hmem y hy with hold | hqueued
          · exact hnocut y hold
          · exact fun hc => absurd (hqueued.symm.trans hc) (by decide)
    · next hnone => exact State.admitNext_sound pitch h (State.cuttingLot_none hnone)

theorem State.lotAdvance_sound (previous new : Nat) {s : State} (h : s.Sound) : (s.lotAdvance previous new).Sound := by
  unfold State.lotAdvance
  split
  · split
    · exact State.cutDecision_sound _ h
    · exact h
  · exact h

/-! ### Samples -/

theorem State.takeTurn_sound (previous new : Nat) (effects : List Deferred) (turn : Turn) {s : State} (h : s.Sound) :
    (s.takeTurn previous new effects turn).Sound := by
  cases turn with
  | cam => exact (s.camAdvance_works.trans (State.settle_works _)).sound h
  | chk => exact ((s.chkAdvance_works previous new).trans (State.settle_works _)).sound h
  | reg => exact ((s.regAdvance_works previous new).trans (State.settle_works _)).sound h
  | lot => exact (State.settle_works _).sound (State.lotAdvance_sound previous new h)
  | trq => exact (State.settle_works _).sound (State.trqAdvance_sound previous new h)
  | sup => exact ((State.effects_works effects s).trans (State.settle_works _)).sound h

theorem State.advance_sound (previous new : Nat) {s : State} (h : s.Sound) : (s.advance previous new).Sound := by
  have hfold (l : List Turn) (effects : List Deferred) (t : State) (ht : t.Sound) :
      (l.foldl (State.takeTurn previous new effects) t).Sound := by
    induction l generalizing t with
    | nil => exact ht
    | cons turn rest ih => exact ih _ (State.takeTurn_sound previous new effects turn ht)
  exact hfold _ _ _ h

theorem State.Still.sound {s t : State} (h : s.Still t) (hs : s.Sound) : t.Sound := by
  rw [State.Sound, State.standings, State.flights, h.table, h.queue]
  exact hs

theorem State.measure_sound (count time : Nat) {s : State} (h : s.Sound) : (s.measure count time).Sound := by
  have hmoved : State.Sound { s with pos := s.nextPos count time } := h
  have hraised := (State.raiseMotion_works s.pos.held (s.nextPos count time).raw (countStep s.pos.lastCount count)
    (s.motion count) _).sound hmoved
  rw [State.measure_eq]
  dsimp only
  split
  · exact (State.raise_works _ _ _ _).sound hraised
  · exact hraised

theorem State.takeSample_sound (count time : Nat) {s : State} (h : s.Sound) : (s.takeSample count time).Sound := by
  unfold State.takeSample
  split
  · exact h
  · dsimp only
    split
    · exact State.advance_sound _ _ (State.measure_sound count time h)
    · exact (State.settle_works _).sound (State.measure_sound count time h)

/-! ### The purge (R67, R126, R142) -/

theorem State.purgeRecord_queue (r : Record) (s : State) : (s.purgeRecord r).trq.queue = s.trq.queue.tail := rfl

theorem State.purgeRecord_standings (r : Record) (s : State) :
    (s.purgeRecord r).standings = changeAt r.lot (fun x => (x.1, x.2.1, x.2.2 - 1)) s.standings :=
  State.writeLot_standings (f := fun l => l.purge r.withdrawn) fun x => (x.1, x.2.1, x.2.2 - 1)

theorem State.foldl_purgeRecord_sound (q : List Record) {s : State} (hq : s.trq.queue = q) (h : s.Sound) :
    LotsSound (q.foldl State.purgeRecord s).standings [] ∧ (q.foldl State.purgeRecord s).trq.queue = [] := by
  induction q generalizing s with
  | nil =>
    rw [State.Sound, State.flights, hq] at h
    exact ⟨h, hq⟩
  | cons r rest ih =>
    refine ih (by rw [State.purgeRecord_queue, hq]; rfl) ?_
    rw [State.Sound, State.flights, State.purgeRecord_queue, State.purgeRecord_standings, hq]
    rw [State.Sound, State.flights, hq] at h
    exact h.leave

theorem Lot.toDeliveryPoint_standing (l : Lot) : l.toDeliveryPoint.standing = l.standing := by
  unfold Lot.toDeliveryPoint
  split <;> rfl

theorem State.purge_sound {s : State} (h : s.Sound) : LotsSound s.purge.standings [] ∧ s.purge.flights = [] := by
  obtain ⟨hsound, hqueue⟩ := State.foldl_purgeRecord_sound s.trq.queue rfl h
  have hstandings : s.purge.standings = (s.trq.queue.foldl State.purgeRecord s).standings := by
    show List.map Lot.standing (List.map Lot.toDeliveryPoint _) = _
    rw [List.map_map]
    exact List.map_congr_left fun l _ => l.toDeliveryPoint_standing
  refine ⟨hstandings ▸ hsound, ?_⟩
  show List.map Record.lot (s.trq.queue.foldl State.purgeRecord s).trq.queue = []
  rw [hqueue]
  rfl

theorem endAll_sound (keys : List LotKey) (skip ended : Nat) {s : State} (h : LotsSound s.standings [])
    (hnone : s.flights = []) : (endAll keys skip ended s).1.Sound := by
  induction keys generalizing skip ended s with
  | nil =>
    show LotsSound _ s.flights
    rw [hnone]
    exact h
  | cons k rest ih =>
    exact ih _ _ (State.endLot_sound skip h rfl).1 ((s.endLot_flights k skip).trans hnone)

/-! ### Requests -/

theorem lotAddOwner_sound (a : LotArgs) {s : State} (h : s.Sound) : (lotAddOwner a s).1.Sound := by
  unfold lotAddOwner
  split
  · exact h
  · split
    · exact h
    · dsimp only
      split
      · exact h
      · split
        · exact h
        · next hfresh =>
          split
          · exact h
          · split
            · exact h
            · have hnot : ∀ x ∈ s.standings ++ [], x.1 ≠ ⟨a.id.toNat, 0⟩ := by
                intro x hx hxk
                rw [List.append_nil] at hx
                obtain ⟨l, hl, rfl⟩ := List.mem_map.mp hx
                exact hfresh (List.find?_isSome.mpr ⟨l, hl, beq_iff_eq.mpr hxk⟩)
              have hinsert := LotsSound.insert (A := s.standings) (B := []) (k := ⟨a.id.toNat, 0⟩)
                (by rw [List.append_nil]; exact h) (fun b hb => by contradiction) hnot
              unfold State.Sound State.standings at hinsert ⊢
              dsimp only
              rw [List.map_append]
              exact hinsert

theorem lotCancelOwner_sound (id : Half) (makeUp : Byte) {s : State} (h : s.Sound) :
    (lotCancelOwner id makeUp s).1.Sound := by
  unfold lotCancelOwner
  dsimp only
  split
  · exact h
  · next l hfound =>
    have hmem : l.standing ∈ s.standings := List.mem_map_of_mem (State.findLot_mem hfound)
    have hkey := State.findLot_key hfound
    have hcounted := h.counted l.standing hmem
    split
    · next hqueued =>
      have hnone := h.waiting l.standing hmem hqueued
      have hremoved := h.remove (k := l.key) (hcounted.symm.trans hnone)
      rw [hkey] at hremoved
      unfold State.standings at hremoved
      rw [← State.filter_standings] at hremoved
      exact hremoved
    · next hcutting =>
      have hwritten : (s.writeLot ⟨id.toNat, makeUp.toNat⟩ fun x => { x with state := .closed, makeUp := false }).standings =
          changeAt ⟨id.toNat, makeUp.toNat⟩ (fun x => (x.1, .closed, x.2.2)) s.standings :=
        State.writeLot_standings fun x => (x.1, .closed, x.2.2)
      have hclosed := (LotsSound.close h ⟨l.standing, hmem, hkey, hcutting⟩).1
      rw [← hwritten] at hclosed
      split
      · next hnone =>
        rw [State.Sound, State.endLot_flights]
        refine (State.endLot_sound 0 hclosed ?_).1
        rw [← hkey]
        exact hcounted.symm.trans hnone
      · exact hclosed
    · exact (State.writeLot_works _ _ s).sound h

theorem State.start_still_lots (l : Lot) (s : State) :
    (s.start l).lot.table = s.lot.table ∧ (s.start l).trq = s.trq := by
  have hreg (f : Format) (c : Nat) (t : State) : (t.regStart f c).lot = t.lot ∧ (t.regStart f c).trq = t.trq := by
    unfold State.regStart
    dsimp only
    split
    · exact ⟨State.placeTrim_lot _, State.placeTrim_trq _⟩
    · exact ⟨State.placeTrim_lot _, State.placeTrim_trq _⟩
  unfold State.start
  dsimp only
  rw [State.lineNotice_lot, State.placeDrive_lot, State.lineNotice_trq, State.placeDrive_trq, (hreg _ _ _).1,
    (hreg _ _ _).2]
  exact ⟨rfl, rfl⟩

theorem lineStartOwner_sound {s : State} (h : s.Sound) : (lineStartOwner s).1.Sound := by
  rcases lineStartOwner_cases s with hsame | ⟨-, -, l, -, -, hstart⟩
  · exact hsame.symm ▸ h
  · obtain ⟨htable, htrq⟩ := s.start_still_lots l
    rw [hstart, State.Sound, State.standings, State.flights, htable, htrq]
    exact h

theorem lineClearOwner_sound {s : State} (h : s.Sound) : (lineClearOwner s).1.Sound := by
  unfold lineClearOwner
  split
  · exact h
  · obtain ⟨hpurged, hnone⟩ := State.purge_sound h
    have hended := (State.settle_works _).sound (endAll_sound s.purge.endingKeys 0 0 hpurged hnone)
    dsimp only
    exact (State.lineNotice_works .safe (State.setLine .idle _ _)).sound hended

theorem lineResetOwner_sound {s : State} (h : s.Sound) : (lineResetOwner s).1.Sound := by
  unfold lineResetOwner
  split
  · exact h
  · have hempty : (s.resetBlocks.setLine .idle .none).Sound :=
      ⟨.nil, Nat.zero_le _, .nil, fun _ hk => absurd hk List.not_mem_nil, fun _ hx => absurd hx List.not_mem_nil,
        fun _ hx => absurd hx List.not_mem_nil⟩
    exact ((State.placeOutbound_works _ _).trans (State.lineNotice_works _ _)).sound hempty

theorem Service.owner_sound {i : Instr} {v : Service} (h : service i = some v) {s : State} (hs : s.Sound) :
    (v.owner s).1.Sound := by
  cases hsettles : v.settles with
  | false =>
    by_cases hadd : ∃ src tag a, i = .lotAdd src tag a
    · obtain ⟨src, tag, a, rfl⟩ := hadd
      exact Option.some.inj h ▸ lotAddOwner_sound a hs
    · exact (Service.owner_still h hsettles (fun src tag a he => hadd ⟨src, tag, a, he⟩) s).sound hs
  | true =>
    cases i with
    | lotCancel src tag id makeUp => exact Option.some.inj h ▸ lotCancelOwner_sound id makeUp hs
    | lineStart => exact Option.some.inj h ▸ lineStartOwner_sound hs
    | lineStop => exact Option.some.inj h ▸ (State.stop_works .request s).sound hs
    | lineHalt => exact Option.some.inj h ▸ (State.halt_works .request s).sound hs
    | lineClear => exact Option.some.inj h ▸ lineClearOwner_sound hs
    | lineReset => exact Option.some.inj h ▸ lineResetOwner_sound hs
    | manualSet src tag channel level => exact Option.some.inj h ▸ (manualSetOwner_works channel level s).sound hs
    | channelSet | inputSet | mapSet | settingsSet | formatOpen | formatLoad | formatCommit | formatErase | formatRead | lotAdd
    | lotRead | statusRead | trackRead | countersRead | logRead | logClear =>
      rw [← Option.some.inj h] at hsettles
      contradiction
    | _ => contradiction

theorem Service.run_sound {i : Instr} {v : Service} (h : service i = some v) {s : State} (hs : s.Sound) :
    (v.run s).Sound := by
  have hrequest : (takeRequest v.src v.code v.tag (v.parts s) v.owner s).Sound :=
    takeRequest_preserves (P := State.Sound) (fun _ _ => id) (fun _ _ => id) (fun _ => Service.owner_sound h) _ _ _ _ hs
  unfold Service.run
  split
  · exact (State.settle_works _).sound hrequest
  · exact hrequest

theorem State.motionLost_sound (loaded : Nat) {s : State} (h : s.Sound) : (s.motionLost loaded).Sound := by
  have hraised : ∀ e : Effect, (s.raise .motionLost e (.number loaded)).Sound := fun e => (s.raise_works _ _ _).sound h
  exact (State.settle_works _).sound (hraised _)

theorem State.Piece.sound {i : Option Instr} {s t : State} (h : State.Piece i s t) (hs : s.Sound) : t.Sound := by
  cases h with
  | sample count time => exact State.takeSample_sound count time hs
  | edge src point level count => exact (s.takeEdge_still src point level count).sound hs
  | motionLost loaded => exact State.motionLost_sound loaded hs
  | serve _ hv => exact Service.run_sound hv hs
  | undecoded src payload => exact (undecodedService_still src payload s).sound hs

/-- Settles O59: the works of the blocks leave keys, states and in-flight counts; each of cut, close, admission,
retirement, purge, lot end, LOT_ADD and LOT_CANCEL keeps the laws by its own lemma on `LotsSound`. -/
theorem everyStepKeepsTheLotTable : Obligations.EveryStepKeepsTheLotTable := by
  intro s t hordered hcounted h
  rw [← State.lotsSound_iff]
  refine step_keeps (P := State.Sound) (fun _ _ => id) (fun strap free l => ?_) (fun _ _ hp => hp.still.sound)
    (fun _ _ _ hp => hp.sound) ((State.lotsSound_iff s).mpr ⟨hordered, hcounted⟩) h
  obtain ⟨-, -, -, hordered, hcounted, -⟩ := resetMeetsTheLaws.1 strap free l
  exact (State.lotsSound_iff _).mpr ⟨hordered, hcounted⟩

end Sys2Proof.Machine

/-! ## Settled: faults and their effects, the motion timer, samples of a known position -/

namespace Sys2Proof.Machine

/-! ### Frames of a notice, a fault and a halt -/

/-- A notice changes the wire and the counters alone. -/
theorem State.notice_eq (n : Notice) (s : State) :
    s.notice n = { s with sup := { s.sup with counters := (s.notice n).sup.counters }, rif := (s.notice n).rif } := by
  rcases s.notice_cases n with ⟨-, h⟩ | ⟨-, h⟩
  · rw [h]
  · rw [h]; rfl

theorem State.raiseAt_eq (k : FaultKind) (e : Effect) (p : Nat) (d : Detail) (s : State) :
    s.raiseAt k e p d = { s with sup := (s.raiseAt k e p d).sup, rif := (s.raiseAt k e p d).rif } := by
  unfold State.raiseAt
  dsimp only
  generalize Notice.fault _ _ = n
  rw [State.notice_eq n]

theorem State.halt_frame {r : StopReason} {s : State} (h : s.sup.line ≠ .safe) :
    s.halt r = { s with
      sup := { s.sup with line := .safe, reason := r, counters := (s.halt r).sup.counters }
      cam := s.safeCam channelIds s.camClear.cam
      reg := { s.reg with lock := .off, matchCount := 0, missCount := 0 }
      rif := (s.halt r).rif } := by
  rw [State.halt_eq r s h]
  exact State.notice_eq _ (s.halted r)

/-- A stop in RUN with records in flight (R147). -/
theorem State.stop_frame {r : StopReason} {s : State} (h : s.sup.line = .run) (hq : s.trq.queue ≠ []) :
    s.stop r = (s.setLine .runout r).lineNotice .run := by
  have hqueue : ¬(((s.setLine .runout r).lineNotice .run).trq.queue.isEmpty = true) := by
    rw [State.lineNotice_trq]
    simpa using hq
  unfold State.stop
  rw [if_pos h]
  exact if_neg hqueue

/-- The sequence of a fault. -/
def State.nextSequence (s : State) : Nat :=
  if s.sup.lastSequence = 4294967295 then s.sup.lastSequence else s.sup.lastSequence + 1

theorem State.raiseAt_deferred (k : FaultKind) (e : Effect) (p : Nat) (d : Detail) {s : State} (hs : s.Settled) :
    (s.raiseAt k e p d).sup.deferred = effectOf e s.nextSequence := by
  rw [State.raiseAt_sup_deferred, hs, State.raiseAt_sup_lastSequence]
  rfl

/-- Step 4 of R159 for a fault with effect NONE: nothing. -/
theorem State.raiseAt_none_settle (k : FaultKind) (p : Nat) (d : Detail) {s : State} (hs : s.Settled) :
    (s.raiseAt k .none p d).settle = s.raiseAt k .none p d :=
  State.settle_idle _ (State.raiseAt_deferred k .none p d hs)

/-- A state with nothing left to take. -/
def State.taken (s : State) : State := { s with sup := { s.sup with deferred := [] } }

/-- Step 4 of R159 for one fault with effect SAFE: the halt. -/
theorem State.settle_safeFault {q : Nat} {s : State} (h : s.sup.deferred = effectOf .safe q) :
    s.settle = s.taken.halt (.fault q) := State.settle_halt h

/-- Step 4 of R159 for one fault with effect STOP outside RUN: absorbed. -/
theorem State.settle_stopFault_absorbed {q : Nat} {s : State} (h : s.sup.deferred = effectOf .stop q)
    (hline : s.sup.line ≠ .run) : s.settle = s.taken := by
  have habsorbed : s.taken.stop (.fault q) = s.taken := State.stop_absorbed _ s.taken hline
  have hone := State.settle_one (d := .stop (.fault q)) (s := s) h (by
    show (s.taken.stop (.fault q)).Settled
    rw [habsorbed]
    rfl)
  exact hone.trans habsorbed

/-- Step 4 of R159 for one fault with effect STOP in RUN with records in flight: the run-out. -/
theorem State.settle_stopFault_run {q : Nat} {s : State} (h : s.sup.deferred = effectOf .stop q)
    (hline : s.sup.line = .run) (hq : s.trq.queue ≠ []) :
    s.settle = (s.taken.setLine .runout (.fault q)).lineNotice .run := by
  have hstop : s.taken.stop (.fault q) = _ := State.stop_frame (s := s.taken) hline hq
  have hone := State.settle_one (d := .stop (.fault q)) (s := s) h (by
    show (s.taken.stop (.fault q)).Settled
    rw [hstop, State.Settled, State.lineNotice, State.notice_sup_deferred]
    rfl)
  exact hone.trans hstop

/-! ### Raising a fault (R159) -/

/-- The record of a fault (R158). -/
def State.faultRecord (kind : FaultKind) (effect : Effect) (p : Nat) (detail : Detail) (s : State) : FaultRecord :=
  ⟨s.nextSequence, kind, effect, s.sup.line, p, detail⟩

/-- Whether the log takes a fault (R159 step 2). -/
def State.storesFault (s : State) : Bool := decide (s.sup.lastSequence ≠ 4294967295 ∧ s.sup.log.length < 16)

/-- SUP after steps 1 to 3 of a fault, its notice aside. -/
def State.faultSup (kind : FaultKind) (effect : Effect) (p : Nat) (detail : Detail) (s : State) : Sup :=
  { s.sup with
    lastSequence := s.nextSequence
    log := if s.storesFault then s.sup.log ++ [s.faultRecord kind effect p detail] else s.sup.log
    overflow := if s.storesFault then s.sup.overflow else min 255 (s.sup.overflow + 1)
    deferred := s.sup.deferred ++ effectOf effect s.nextSequence }

theorem State.raiseAt_notice (kind : FaultKind) (effect : Effect) (p : Nat) (detail : Detail) (s : State) :
    s.raiseAt kind effect p detail = State.notice (.fault (s.faultRecord kind effect p detail) s.storesFault)
      { s with sup := s.faultSup kind effect p detail } := by
  unfold State.raiseAt State.faultSup State.faultRecord State.storesFault State.nextSequence
  by_cases hlast : s.sup.lastSequence = 4294967295
  · simp [hlast]
  · have hbelow : (s.sup.lastSequence == 4294967295) = false := beq_false_of_ne hlast
    simp [hlast, hbelow, Config.logPlaces]

theorem State.raiseAt_sup (kind : FaultKind) (effect : Effect) (p : Nat) (detail : Detail) (s : State) :
    (s.raiseAt kind effect p detail).sup =
      { s.faultSup kind effect p detail with counters := (s.raiseAt kind effect p detail).sup.counters } := by
  rw [State.raiseAt_notice, State.notice_eq]

/-- Settles O46: steps 1 to 3 are `State.raiseAt_notice`; step 4 takes the one effect that waits. -/
theorem raisingAFaultByItsSteps : Obligations.RaisingAFaultByItsSteps := by
  intro kind effect detail s t more stored q record
  have hq : q = s.nextSequence := by
    show (if s.sup.lastSequence ≠ 4294967295 then _ else _) = _
    rw [ite_not]
    rfl
  have hrecord : record = s.faultRecord kind effect s.pitch detail := by
    show (⟨q, kind, effect, s.sup.line, s.pitch, detail⟩ : FaultRecord) = _
    rw [hq]
    rfl
  have hsup : t.sup = { s.faultSup kind effect s.pitch detail with counters := t.sup.counters } :=
    State.raiseAt_sup kind effect s.pitch detail s
  have hraised : t = State.notice (.fault record (decide stored)) { s with sup := s.faultSup kind effect s.pitch detail } := by
    rw [hrecord]
    exact State.raiseAt_notice kind effect s.pitch detail s
  have hline : t.sup.line = s.sup.line := by rw [hsup]; rfl
  have hreason : t.sup.reason = s.sup.reason := by rw [hsup]; rfl
  have hdeferred (hs : s.Settled) : t.sup.deferred = effectOf effect q := by
    rw [hq]
    exact State.raiseAt_deferred kind effect s.pitch detail hs
  refine ⟨State.raiseAt_eq kind effect s.pitch detail s, ?_, hline, fun h => ?_, fun h => ?_, fun h => ?_, fun h => ?_,
    fun hs => ⟨fun he => ?_, fun he hsafe => ?_, fun he hsafe => ?_, fun he hrun hqueue => ?_, fun he hrun => ?_⟩⟩
  · rw [hsup, hq]; rfl
  · have hstores : s.storesFault = true := decide_eq_true h
    rw [hsup, hrecord]
    simp only [State.faultSup, hstores, if_true, and_self]
  · have hstores : s.storesFault = false := decide_eq_false h
    rw [hsup]
    simp only [State.faultSup, hstores, Bool.false_eq_true, if_false, and_self]
  · rcases State.notice_cases (.fault record (decide stored)) { s with sup := s.faultSup kind effect s.pitch detail }
      with ⟨-, hn⟩ | ⟨hfull, -⟩
    · rw [hraised, hn]
      exact ⟨rfl, fun hbusy => Rif.pushManagement_busy s.rif _ hbusy⟩
    · change 16 - (s.rif.management.length + s.rif.reserved) = 0 at hfull
      omega
  · rcases State.notice_cases (.fault record (decide stored)) { s with sup := s.faultSup kind effect s.pitch detail }
      with ⟨hroom, -⟩ | ⟨-, hn⟩
    · change 0 < 16 - (s.rif.management.length + s.rif.reserved) at hroom
      omega
    · rw [hraised, hn]
      exact ⟨rfl, rfl⟩
  · have hsettled : t.Settled := (hdeferred hs).trans (by rw [he]; rfl)
    rw [State.settle_idle t hsettled]
    exact ⟨hline, hreason⟩
  · rw [State.settle_safeFault ((hdeferred hs).trans (by rw [he])), State.halt_frame (s := t.taken) (hline ▸ hsafe)]
    exact ⟨rfl, rfl⟩
  · rw [State.settle_safeFault ((hdeferred hs).trans (by rw [he])), State.halt_safe _ t.taken (hline.trans hsafe)]
    exact ⟨hreason, hline.trans hsafe⟩
  · have hq' : t.trq.queue ≠ [] := by
      rw [hraised, State.notice_trq]
      exact hqueue
    rw [State.settle_stopFault_run ((hdeferred hs).trans (by rw [he])) (hline.trans hrun) hq', State.lineNotice_sup_line,
      State.lineNotice_sup_reason]
    exact ⟨rfl, rfl⟩
  · rw [State.settle_stopFault_absorbed ((hdeferred hs).trans (by rw [he])) (hline ▸ hrun)]
    exact ⟨hline, hreason⟩

/-! ### The motion timer (R9) -/

theorem State.chkLosePosition_chkInput (s : State) (i : Fin 16) :
    s.chkLosePosition.chkInput i = { s.chkInput i with pulse := .none, lastClosed := none } := by
  have hget (v : Vector ChkInput 16) := foldl_updateAt_get (fun _ (x : ChkInput) => { x with pulse := .none, lastClosed := none })
    inputIds (List.nodup_finRange 16) v i
  refine (hget s.chk).trans ?_
  rw [if_pos (inputIds_mem i)]
  rfl

/-- What the loss of the position by the timer leaves waiting. -/
theorem State.motionLost_eq {loaded : Nat} {s : State} (hs : s.Settled) :
    s.motionLost loaded = if s.running then
        (s.raise .motionLost .safe (.number loaded)).losePosition.taken.halt (.fault s.nextSequence)
      else (s.raise .motionLost .none (.number loaded)).losePosition := by
  have hdeferred (e : Effect) : (s.raise .motionLost e (.number loaded)).losePosition.sup.deferred =
      effectOf e s.nextSequence := State.raiseAt_deferred .motionLost e s.pitch (.number loaded) hs
  unfold State.motionLost
  dsimp only
  cases s.running with
  | true => exact State.settle_safeFault (hdeferred .safe)
  | false => exact State.settle_idle _ (hdeferred .none)

theorem State.losePosition_frame (s : State) :
    s.losePosition.pos = ⟨.unknown, s.pos.raw, s.pos.held, s.pos.lastCount, s.pos.lastTime, [], 0, 0, 0, none⟩ ∧
      (∀ i, (s.losePosition.chkInput i).pulse = .none ∧ (s.losePosition.chkInput i).lastClosed = none ∧
        (s.losePosition.chkInput i).pending = (s.chkInput i).pending ∧
        (s.losePosition.chkInput i).consecutive = (s.chkInput i).consecutive) := by
  refine ⟨rfl, fun i => ?_⟩
  have hget : s.losePosition.chkInput i = { s.chkInput i with pulse := .none, lastClosed := none } :=
    State.chkLosePosition_chkInput _ i
  rw [hget]
  exact ⟨rfl, rfl, rfl, rfl⟩

theorem State.raise_logs {k : FaultKind} {e : Effect} {d : Detail} {s : State} (hlast : s.sup.lastSequence < 4294967295)
    (hroom : s.sup.log.length < 16) :
    (s.raise k e d).sup.log = s.sup.log ++ [⟨s.sup.lastSequence + 1, k, e, s.sup.line, s.pitch, d⟩] :=
  (State.raiseAt_log k e s.pitch d s).trans (if_pos ⟨by omega, hroom⟩)

/-- Settles O19: the fault is raised, the position lost, and in a run the halt that waits is taken. -/
theorem motionTimerExpiryLosesThePosition : Obligations.MotionTimerExpiryLosesThePosition := by
  refine ⟨fun s h => ?_, fun loaded s h hs => ⟨s.motionLost loaded, ?_, ?_⟩⟩
  · show execMotionTimerExpiry s = _
    rw [execMotionTimerExpiry, h]
  · show execMotionTimerExpiry s = _
    rw [execMotionTimerExpiry, h]
  · have hlogs (e : Effect) := State.raise_logs (k := .motionLost) (e := e) (d := .number loaded) (s := s)
    have hraised (e : Effect) : s.raise .motionLost e (.number loaded) = { s with
        sup := (s.raise .motionLost e (.number loaded)).sup, rif := (s.raise .motionLost e (.number loaded)).rif } :=
      State.raiseAt_eq .motionLost e s.pitch (.number loaded) s
    have hline (e : Effect) : (s.raise .motionLost e (.number loaded)).sup.line = s.sup.line := State.raise_sup_line _ _ _ s
    have hreason (e : Effect) : (s.raise .motionLost e (.number loaded)).sup.reason = s.sup.reason :=
      State.raise_sup_reason _ _ _ s
    have hlast : (s.raise .motionLost .safe (.number loaded)).sup.lastSequence = s.nextSequence :=
      State.raiseAt_sup_lastSequence _ _ _ _ s
    rw [State.motionLost_eq hs]
    cases hrun : s.running with
    | true =>
      have hsafe : (s.raise .motionLost .safe (.number loaded)).losePosition.taken.sup.line ≠ .safe := by
        show (s.raise .motionLost .safe (.number loaded)).sup.line ≠ .safe
        rw [hline]
        intro hsafe
        rw [State.running, hsafe] at hrun
        contradiction
      rw [if_pos rfl, State.halt_frame hsafe]
      obtain ⟨hpos, hchk⟩ := State.losePosition_frame (s.raise .motionLost .safe (.number loaded))
      rw [hraised .safe] at hpos hchk ⊢
      exact ⟨hpos, hchk, rfl, rfl, rfl, fun h => by contradiction, fun _ => ⟨rfl, congrArg StopReason.fault hlast.symm⟩,
        hlogs .safe⟩
    | false =>
      rw [if_neg Bool.false_ne_true]
      obtain ⟨hpos, hchk⟩ := State.losePosition_frame (s.raise .motionLost .none (.number loaded))
      have hkept : (s.raise .motionLost .none (.number loaded)).losePosition.sup.line = s.sup.line ∧
          (s.raise .motionLost .none (.number loaded)).losePosition.sup.reason = s.sup.reason := ⟨hline .none, hreason .none⟩
      rw [hraised .none] at hpos hchk hkept ⊢
      exact ⟨hpos, hchk, rfl, rfl, rfl, fun _ => ⟨hkept.1, hkept.2, rfl⟩, fun h => by contradiction, hlogs .none⟩

end Sys2Proof.Machine

/-! ## Settled: samples of a known position -/

namespace Sys2Proof.Machine

/-! ### The held position in a run (R6) -/

/-- No request moves the held position. -/
theorem Service.owner_held {i : Instr} {v : Service} (h : service i = some v) (s : State) :
    (v.owner s).1.pos.held = s.pos.held := by
  cases hsettles : v.settles with
  | false => exact (Service.owner_calm h hsettles s).held
  | true =>
    by_cases hstart : ∃ src tag, i = .lineStart src tag
    · obtain ⟨src, tag, rfl⟩ := hstart
      obtain rfl := Option.some.inj h
      show (lineStartOwner s).1.pos.held = _
      rcases lineStartOwner_cases s with hsame | ⟨-, -, l, -, -, hstarted⟩
      · rw [hsame]
      · rw [hstarted, (s.start_frame l).2.1]
    · by_cases hclear : ∃ src tag, i = .lineClear src tag
      · obtain ⟨src, tag, rfl⟩ := hclear
        obtain rfl := Option.some.inj h
        show (lineClearOwner s).1.pos.held = _
        rcases lineClearOwner_cases s with hsame | ⟨-, -, hpos⟩
        · rw [hsame]
        · rw [hpos]
      · by_cases hreset : ∃ src tag, i = .lineReset src tag
        · obtain ⟨src, tag, rfl⟩ := hreset
          obtain rfl := Option.some.inj h
          show (lineResetOwner s).1.pos.held = _
          rcases lineResetOwner_cases s with hsame | ⟨-, -, hpos⟩
          · rw [hsame]
          · rw [hpos]
        · exact congrArg Pos.held (Service.owner_acts h hsettles (fun src tag he => hstart ⟨src, tag, he⟩)
            (fun src tag he => hclear ⟨src, tag, he⟩) (fun src tag he => hreset ⟨src, tag, he⟩) s).pos

theorem Service.run_held {i : Instr} {v : Service} (h : service i = some v) (s : State) :
    (v.run s).pos.held = s.pos.held := by
  have hrequest : (takeRequest v.src v.code v.tag (v.parts s) v.owner s).pos.held = s.pos.held :=
    takeRequest_preserves (P := fun t => t.pos.held = s.pos.held) (fun _ _ => id) (fun _ _ => id)
      (fun t ht => (Service.owner_held h t).trans ht) _ _ _ _ rfl
  unfold Service.run
  split
  · exact (congrArg Pos.held (State.settle_works _).acts.pos).trans hrequest
  · exact hrequest

/-- A sample without a motion fault does not lower the held position of a run (R6). -/
theorem State.nextPos_held_le {count : Nat} (time : Nat) {s : State} (hrun : s.running = true) (h : s.motion count = none) :
    s.pos.held ≤ (s.nextPos count time).held := by
  show _ ≤ nextHeld s.running _ _ (s.motion count)
  rw [hrun, h]
  exact Nat.le_max_left _ _

theorem State.faulted_eq (count : Nat) (s : State) : s.faulted count = (s.motion count).isSome := rfl

/-- V is 0 behind a motion fault (R6, R11). -/
theorem State.nextPos_faulted {count : Nat} (time : Nat) {s : State} (h : (s.motion count).isSome = true) :
    (s.nextPos count time).history = [] ∧ (s.nextPos count time).s = 0 ∧ (s.nextPos count time).v = 0 := by
  have hhistory : s.nextHistory count time = [] := if_pos h
  refine ⟨hhistory, ?_, ?_⟩
  · show speedOf (s.nextHistory count time) = 0
    rw [hhistory]
    rfl
  · show cpmOf (speedOf (s.nextHistory count time)) = 0
    rw [hhistory]
    rfl

theorem State.comesToDebounce_zero (s : State) : s.comesToDebounce 0 = false := by
  rw [Bool.eq_false_iff, ne_eq, State.comesToDebounce_iff]
  exact fun h => absurd h.1 (Nat.not_lt_zero _)

/-- A sample with a motion fault: no block works, and the fault's halt is taken (R6, R159). -/
theorem State.takeSample_faulted {count : Nat} (time : Nat) {s : State} {fault : MotionFault} (hknown : s.pos.state = .known)
    (h : s.motion count = some fault) :
    s.takeSample count time =
      ({ s with pos := s.nextPos count time }.raiseMotion s.pos.held (s.nextPos count time).raw
        (countStep s.pos.lastCount count) (some fault)).settle := by
  have hmeasure : s.measure count time = { s with pos := s.nextPos count time }.raiseMotion s.pos.held
      (s.nextPos count time).raw (countStep s.pos.lastCount count) (some fault) := by
    rw [State.measure_eq, (State.nextPos_faulted time (by rw [h]; rfl)).2.2, State.comesToDebounce_zero, h]
    rfl
  unfold State.takeSample
  rw [hknown]
  dsimp only
  rw [hmeasure, State.faulted_eq, h]
  exact if_neg fun hc => Bool.false_ne_true hc.1

/-- The fault that a motion fault raises, with its detail (R6). -/
theorem State.raiseMotion_some (held raw : Nat) (step : Int) (fault : MotionFault) (s : State) :
    s.raiseMotion held raw step (some fault) = match fault with
      | .jump => s.raiseAt .positionJump .safe (held / 4096) (.number step)
      | .reverse => s.raiseAt .reverse .safe (held / 4096) (.number ((held : Int) - raw)) := by
  cases fault <;> rfl

theorem State.raiseMotion_halts (held raw : Nat) (step : Int) (fault : MotionFault) (s : State) :
    ∃ q, .halt (.fault q) ∈ (s.raiseMotion held raw step (some fault)).sup.deferred := by
  rw [State.raiseMotion_some]
  cases fault <;> exact ⟨_, by rw [State.raiseAt_sup_deferred]; exact List.mem_append_right _ (List.mem_singleton.mpr rfl)⟩

theorem State.takeSample_held {count time : Nat} {s : State} (hrun : s.running = true) (hknown : s.pos.state = .known)
    (h : (s.takeSample count time).running = true) : s.pos.held ≤ (s.takeSample count time).pos.held := by
  rw [State.takeSample_known hknown]
  cases hfault : s.motion count with
  | none => exact State.nextPos_held_le time hrun hfault
  | some fault =>
    obtain ⟨q, hq⟩ := State.raiseMotion_halts s.pos.held (s.nextPos count time).raw (countStep s.pos.lastCount count) fault
      { s with pos := s.nextPos count time }
    rw [State.takeSample_faulted time hknown hfault, State.running, State.settle_safe hq] at h
    contradiction

theorem State.Piece.held {i : Option Instr} {s t : State} (h : State.Piece i s t) (hrun : s.running = true)
    (hknown : s.pos.state = .known) (hrun' : t.running = true) : s.pos.held ≤ t.pos.held := by
  cases h with
  | sample count time => exact State.takeSample_held hrun hknown hrun'
  | edge src point level count => exact Nat.le_of_eq (s.takeEdge_still src point level count).held.symm
  | motionLost loaded =>
    rw [State.running, State.motionLost_running hrun] at hrun'
    contradiction
  | serve _ hv => exact Nat.le_of_eq (Service.run_held hv s).symm
  | undecoded src payload => exact Nat.le_of_eq (undecodedService_still src payload s).held.symm

theorem State.Row.held {i : Option Instr} {s t : State} (h : State.Row i s t) (hrun : s.running = true)
    (hknown : s.pos.state = .known) (hrun' : t.running = true) : s.pos.held ≤ t.pos.held := by
  cases h with
  | passings h => rw [h.pos]
  | piece hbefore hpiece hafter =>
    rw [hafter.pos, ← hbefore.pos]
    rw [← hbefore.pos] at hknown
    rw [State.running, ← hbefore.still.line] at hrun
    rw [State.running, hafter.still.line] at hrun'
    exact hpiece.held hrun hknown hrun'

/-! ### The limits of R6 -/

theorem State.motion_jump {count : Nat} {s : State} (hrun : s.running = true)
    (h : 1024 < countStep s.pos.lastCount count) : s.motion count = some .jump := by
  rw [State.motion, motionFault, hrun]
  exact if_pos h

theorem State.motion_reverse {count time : Nat} {s : State} (hrun : s.running = true)
    (h : ¬1024 < countStep s.pos.lastCount count) (hback : (s.nextPos count time).raw + 64 < s.pos.held) :
    s.motion count = some .reverse := by
  rw [State.motion, motionFault, hrun]
  exact (if_neg h).trans (if_pos hback)

theorem State.motion_none {count time : Nat} {s : State}
    (h : ¬(s.running = true ∧ (1024 < countStep s.pos.lastCount count ∨ (s.nextPos count time).raw + 64 < s.pos.held))) :
    s.motion count = none := by
  rw [State.motion, motionFault]
  split
  · next hrun =>
    rw [if_neg fun hjump => h ⟨hrun, .inl hjump⟩]
    exact if_neg fun hback => h ⟨hrun, .inr hback⟩
  · rfl

/-- A fault at any position that halts a run: the log takes it, and the line is SAFE with it as reason. -/
theorem State.raiseAt_halts {k : FaultKind} {p : Nat} {d : Detail} {s : State} (hs : s.Settled)
    (hline : s.sup.line ≠ .safe) (hlast : s.sup.lastSequence < 4294967295) (hroom : s.sup.log.length < 16) :
    (s.raiseAt k .safe p d).settle.sup.line = .safe ∧
      (s.raiseAt k .safe p d).settle.sup.reason = .fault (s.sup.lastSequence + 1) ∧
      (s.raiseAt k .safe p d).settle.trq = s.trq ∧ (s.raiseAt k .safe p d).settle.lot = s.lot ∧
      (s.raiseAt k .safe p d).settle.sup.log =
        s.sup.log ++ [⟨s.sup.lastSequence + 1, k, .safe, s.sup.line, p, d⟩] := by
  have hnext : s.nextSequence = s.sup.lastSequence + 1 := if_neg (by omega)
  have hlog := (State.raiseAt_log k .safe p d s).trans (if_pos ⟨by omega, hroom⟩)
  have hnow : (s.raiseAt k .safe p d).taken.sup.line ≠ .safe := by
    show (s.raiseAt k .safe p d).sup.line ≠ .safe
    rw [State.raiseAt_sup_line]
    exact hline
  rw [State.settle_safeFault (State.raiseAt_deferred k .safe p d hs), hnext, State.halt_frame hnow]
  exact ⟨rfl, rfl, State.raiseAt_trq k .safe p d s, State.raiseAt_lot k .safe p d s, hlog⟩

/-- Settles O18: a row that leaves the line running holds at most one sample, and that sample either keeps the held position
or halts the line. -/
theorem runMotionIsHeldOrHalted : Obligations.RunMotionIsHeldOrHalted := by
  refine ⟨fun i s t hrun hknown _ h hrun' => ?_, ?_⟩
  · by_cases hi : ∃ strap, i = .powerOnReset strap
    · obtain ⟨strap, rfl⟩ := hi
      obtain rfl := Host.Outcome.next.inj h
      contradiction
    · obtain ⟨u, hu, hrow⟩ := exec_row i s fun strap he => hi ⟨strap, he⟩
      obtain rfl := Host.Outcome.next.inj (hu.symm.trans h)
      exact hrow.held hrun hknown hrun'
  · intro src count time s hup hsrc hown hdrive hknown hrun hs hlast hroom step
    refine ⟨_, exec_angle_passes src count time s hup hsrc hown, ?_⟩
    rw [State.takeAngle_driveNode _ _ _ s.heard hdrive]
    have hpos : (s.heard.takeSample count.toNat time.toNat).pos = s.heard.nextPos count.toNat time.toNat :=
      State.takeSample_known hknown
    have hline : s.sup.line ≠ .safe := by
      intro hsafe
      rw [State.running, hsafe] at hrun
      contradiction
    have hraw : (s.heard.takeSample count.toNat time.toNat).pos.raw = (s.heard.nextPos count.toNat time.toNat).raw := by
      rw [hpos]
    have hhalts (k : FaultKind) (d : Detail) := State.raiseAt_halts (k := k) (p := s.pos.held / 4096) (d := d)
      (s := { s.heard with pos := s.heard.nextPos count.toNat time.toNat }) hs hline hlast hroom
    show (1024 < step ∨ (s.heard.takeSample count.toNat time.toNat).pos.raw + 64 < s.pos.held → _) ∧ (_ → _) ∧
      (_ → (s.heard.takeSample count.toNat time.toNat).pos.raw + 64 < s.pos.held → _)
    by_cases hjump : 1024 < step
    · have hsample : s.heard.takeSample count.toNat time.toNat = _ :=
        State.takeSample_faulted time.toNat hknown (State.motion_jump (s := s.heard) hrun hjump)
      rw [State.raiseMotion_some] at hsample
      obtain ⟨hsafe, hreason, htrq, hlot, hlog⟩ := hhalts .positionJump (.number step)
      rw [hsample]
      exact ⟨fun _ => ⟨hsafe, hreason, htrq, hlot⟩, fun _ => hlog, fun hle => absurd hjump (not_lt.mpr hle)⟩
    · have hsample (hback : (s.heard.takeSample count.toNat time.toNat).pos.raw + 64 < s.pos.held) :
          s.heard.takeSample count.toNat time.toNat = _ :=
        State.takeSample_faulted time.toNat hknown (State.motion_reverse (s := s.heard) hrun hjump (hraw ▸ hback))
      refine ⟨fun hback => ?_, fun h => absurd h hjump, fun _ hback => ?_⟩
      · have hreversed := hsample (hback.resolve_left hjump)
        rw [State.raiseMotion_some] at hreversed
        obtain ⟨hsafe, hreason, htrq, hlot, -⟩ := hhalts .reverse
          (.number ((s.pos.held : Int) - (s.heard.nextPos count.toNat time.toNat).raw))
        rw [hreversed]
        exact ⟨hsafe, hreason, htrq, hlot⟩
      · have hreversed := hsample hback
        rw [State.raiseMotion_some] at hreversed
        obtain ⟨-, -, -, -, hlog⟩ := hhalts .reverse
          (.number ((s.pos.held : Int) - (s.heard.nextPos count.toNat time.toNat).raw))
        show _ = s.sup.log ++ [⟨_, .reverse, .safe, s.sup.line, s.pitch,
          .number ((s.pos.held : Int) - (s.heard.takeSample count.toNat time.toNat).pos.raw)⟩]
        rw [hraw, hreversed]
        exact hlog

end Sys2Proof.Machine

/-! ## Settled: what a sample makes of the position, and the advance -/

namespace Sys2Proof.Machine

/-! ### A stop that waits -/

theorem State.stop_stage (r : StopReason) (s : State) : 1 ≤ (s.stop r).sup.line.stage := by
  by_cases h : s.sup.line = .run
  · unfold State.stop
    rw [if_pos h]
    have hnoticed : ((s.setLine .runout r).lineNotice .run).sup.line.stage = 1 := by
      rw [State.lineNotice_sup_line]
      rfl
    dsimp only
    split
    · have hworks := State.completeRunout_works (s := (s.setLine .runout r).lineNotice .run) (by rw [hnoticed]; decide)
      exact hnoticed.symm.le.trans hworks.acts.stage_le
    · exact hnoticed.symm.le
  · rw [State.stop_absorbed r s h]
    cases hline : s.sup.line with
    | run => exact absurd hline h
    | runout | idle | safe => decide

/-- A stop among the effects that wait takes the line out of RUN (R147). -/
theorem State.settle_stopped {r : StopReason} {s : State} (h : .stop r ∈ s.sup.deferred) : 1 ≤ s.settle.sup.line.stage := by
  obtain ⟨before, after, hsplit⟩ := List.append_of_mem h
  have hstopped : 1 ≤ s.applyEffects.sup.line.stage := by
    rw [State.applyEffects, hsplit, List.foldl_append, List.foldl_cons]
    exact (State.stop_stage r _).trans (State.foldl_works State.applyEffect_works after _).acts.stage_le
  exact hstopped.trans (State.applyEffects_works _).acts.stage_le

/-- SUP's turn takes the effects that POS reported (R7). -/
theorem State.advance_stopped {r : StopReason} (previous new : Nat) {s : State} (h : .stop r ∈ s.sup.deferred) :
    1 ≤ (s.advance previous new).sup.line.stage := by
  obtain ⟨before, after, hsplit⟩ := List.append_of_mem
    ((advanceOrder_perm (Config.pick s.free)).mem_iff.mpr (by decide : Turn.sup ∈ allTurns))
  have hturn (t : State) : 1 ≤ (t.takeTurn previous new s.sup.deferred .sup).sup.line.stage :=
    State.settle_stopped (s := { t with sup := { t.sup with deferred := s.sup.deferred } }) h
  show 1 ≤ (List.foldl (State.takeTurn previous new s.sup.deferred) _ (advanceOrder (Config.pick s.free))).sup.line.stage
  rw [hsplit, List.foldl_append, List.foldl_cons]
  exact (hturn _).trans (State.foldl_acts (State.takeTurn_acts previous new s.sup.deferred) after _).stage_le

/-! ### The log grows -/

theorem State.Act.log_prefix {s t : State} (h : s.Act t) : s.sup.log <+: t.sup.log := by
  have hraised (k : FaultKind) (e : Effect) (p : Nat) (d : Detail) (u : State) : u.sup.log <+: (u.raiseAt k e p d).sup.log := by
    rw [State.raiseAt_log]
    split
    · exact List.prefix_append _ _
    · exact List.prefix_rfl
  cases h with
  | lots => exact List.prefix_rfl
  | work h =>
    cases h with
    | raise k e p d => exact hraised k e p d s
    | notice n => rw [State.notice_sup_log]
    | place f =>
      rcases s.placeOutbound_cases f with ⟨-, he⟩ | ⟨-, -, he⟩ | ⟨-, -, he⟩
      · rw [he]
      · rw [he]
      · rw [he]
        exact hraised _ _ _ _ { s with rif := { s.rif with overrun := true } }
    | _ => exact List.prefix_rfl

theorem State.Acts.log_prefix {s t : State} (h : s.Acts t) : s.sup.log <+: t.sup.log :=
  State.Acts.keeps (P := fun u => s.sup.log <+: u.sup.log) (fun _ _ ha hu => hu.trans ha.log_prefix) h List.prefix_rfl

/-! ### A sample whole -/

/-- What follows the measure: an advance where the held position has moved forward without a fault, else step 4 of R159. -/
theorem State.takeSample_measured {count time : Nat} {s : State} (hknown : s.pos.state = .known)
    (hfault : s.motion count = none) :
    s.takeSample count time =
      if s.pos.held < (s.nextPos count time).held then
        (s.measure count time).advance s.pos.held (s.nextPos count time).held
      else (s.measure count time).settle := by
  unfold State.takeSample
  rw [hknown]
  dsimp only
  rw [State.faulted_eq, hfault, State.measure_pos]
  simp

/-- The measure of a sample without a motion fault. -/
theorem State.measure_calm {count time : Nat} {s : State} (hfault : s.motion count = none) :
    s.measure count time =
      if s.comesToDebounce (s.nextPos count time).v then
        { s with pos := s.nextPos count time }.raise .overspeed .stop (.number (s.nextPos count time).v)
      else { s with pos := s.nextPos count time } := by
  rw [State.measure_eq, hfault]
  rfl

/-- A sample that brings the run count to the debounce: OVERSPEED is raised, and its stop taken (R12, R159). -/
theorem State.takeSample_fast {count time : Nat} {s : State} (hknown : s.pos.state = .known)
    (hfast : s.comesToDebounce (s.nextPos count time).v = true) :
    (s.takeSample count time).sup.line ≠ .run ∧
      (({ s with pos := s.nextPos count time } : State).raise .overspeed .stop
        (.number (s.nextPos count time).v)).sup.log <+: (s.takeSample count time).sup.log := by
  have hfault : s.motion count = none := by
    by_contra hsome
    have hzero := (State.nextPos_faulted time (Option.isSome_iff_ne_none.mpr hsome)).2.2
    rw [hzero, State.comesToDebounce_zero] at hfast
    contradiction
  have hwaits : ∃ q, .stop (.fault q) ∈ (({ s with pos := s.nextPos count time } : State).raise .overspeed .stop
      (.number (s.nextPos count time).v)).sup.deferred :=
    ⟨_, by rw [State.raise, State.raiseAt_sup_deferred]; exact List.mem_append_right _ (List.mem_singleton.mpr rfl)⟩
  obtain ⟨q, hq⟩ := hwaits
  have hline {l : LineState} (h : 1 ≤ l.stage) : l ≠ .run := fun he => by
    rw [he] at h
    exact absurd h (by decide)
  rw [State.takeSample_measured hknown hfault, State.measure_calm hfault, hfast, if_pos rfl]
  split
  · exact ⟨hline (State.advance_stopped _ _ hq), (State.advance_acts _ _ _).log_prefix⟩
  · exact ⟨hline (State.settle_stopped hq), (State.settle_works _).acts.log_prefix⟩

/-! ### The parts of POS -/

theorem countStep_bounds (old new : Nat) : countStep old new ≤ 32767 ∧ -32768 ≤ countStep old new := by
  unfold countStep signed16
  split <;> omega

theorem countStep_mod (old new : Nat) : (countStep old new - ((new : Int) - old)) % 65536 = 0 := by
  unfold countStep signed16
  split <;> omega

theorem nextRaw_below {raw : Nat} {step : Int} (h : (raw : Int) + step < 0) : nextRaw raw step = 0 := if_pos h

theorem nextRaw_within {raw : Nat} {step : Int} (h : 0 ≤ (raw : Int) + step) (h' : (raw : Int) + step < 2 ^ 44) :
    (nextRaw raw step : Int) = raw + step := by
  have hlimit : (raw : Int) + step < Config.positionLimit := h'
  rw [nextRaw, if_neg (not_lt.mpr h), if_pos hlimit]
  exact Int.toNat_of_nonneg h

theorem speedOf_eq (h : List Interval) : speedOf h = if h = [] then 0 else
    min 131071 ((h.map Interval.counts).sum.toNat * 1000000 / (h.map Interval.time).sum) := by
  cases h <;> rfl

theorem addInterval_cases (h : List Interval) (counts : Int) (time : Nat) :
    (time = 0 → addInterval h counts time = h) ∧
      (0 < time → time ≤ 50000 → addInterval h counts time = h.drop (h.length - 7) ++ [⟨counts, time⟩]) ∧
      (50000 < time → addInterval h counts time = []) := by
  refine ⟨fun h => if_pos h, fun hpos hle => ?_, fun hlong => ?_⟩
  · exact (if_neg hpos.ne').trans (if_pos hle)
  · exact (if_neg (by omega)).trans (if_neg (by omega))

/-- Settles O17: POS after the sample is `State.nextPos`, whose parts follow their rules; by the end of the command an
OVERSPEED stop is taken. -/
theorem sampleMovesThePositionByTheRules : Obligations.SampleMovesThePositionByTheRules := by
  intro src count time s hup hsrc hown hdrive hknown step gap tooFast
  refine ⟨(countStep_bounds _ _).1, (countStep_bounds _ _).2, countStep_mod _ _, _,
    exec_angle_passes src count time s hup hsrc hown, ?_⟩
  rw [State.takeAngle_driveNode _ _ _ s.heard hdrive]
  have hpos : ((s.heard.takeSample count.toNat time.toNat).forward
      (angleBody src count time ++ halfBytes (frameCheck (angleBody src count time)))).pos =
      s.heard.nextPos count.toNat time.toNat := State.takeSample_known hknown
  have hfast := State.takeSample_fast (s := s.heard) (count := count.toNat) (time := time.toNat) hknown
  have hsup : ((s.heard.takeSample count.toNat time.toNat).forward
      (angleBody src count time ++ halfBytes (frameCheck (angleBody src count time)))).sup =
      (s.heard.takeSample count.toNat time.toNat).sup := rfl
  have hclose (h : ¬(s.running = true ∧ (1024 < step ∨ nextRaw s.pos.raw step + 64 < s.pos.held))) :
      s.heard.motion count.toNat = none := State.motion_none (s := s.heard) (time := time.toNat) h
  have hhistory (h : s.heard.motion count.toNat = none) :
      s.heard.nextHistory count.toNat time.toNat = addInterval s.pos.history step gap := by
    rw [State.nextHistory, h]
    rfl
  have hheld (fault : Option MotionFault) (h : s.heard.motion count.toNat = fault) :
      (s.heard.nextPos count.toNat time.toNat).held = nextHeld s.running s.pos.held (nextRaw s.pos.raw step) fault := by
    rw [← h]
    rfl
  simp only [tooFast, hpos, hsup]
  refine ⟨hknown, rfl, rfl, rfl, nextRaw_below, nextRaw_within, fun hrun => ?_, fun hrun hfar => ?_, fun hrun hnear => ?_,
    fun hnear => ?_, speedOf_eq _, rfl, fun h => if_neg h, fun h => if_pos h, fun htoo hbefore hcomes _ => ?_⟩
  · rw [hheld _ rfl, hrun]
    rfl
  · have hsome : (s.heard.motion count.toNat).isSome := by
      by_cases hjump : 1024 < step
      · rw [State.motion_jump (s := s.heard) hrun hjump]
        rfl
      · rw [State.motion_reverse (s := s.heard) (time := time.toNat) hrun hjump (hfar.resolve_left hjump)]
        rfl
    obtain ⟨fault, hfault⟩ := Option.isSome_iff_exists.mp hsome
    refine ⟨?_, State.nextPos_faulted time.toNat hsome⟩
    rw [hheld _ hfault, hrun]
    rfl
  · rw [hheld _ (hclose fun h => hnear h.2), hrun]
    rfl
  · have hadded : (s.heard.nextPos count.toNat time.toNat).history = _ := hhistory (hclose hnear)
    rw [hadded]
    exact addInterval_cases s.pos.history step gap
  · obtain ⟨hline, hlog⟩ := hfast ((State.comesToDebounce_iff _ _).mpr ⟨htoo, hbefore, hcomes⟩)
    refine ⟨hline, fun hlast hroom => ?_⟩
    have hraised := State.raise_logs (k := .overspeed) (e := .stop)
      (d := .number (s.heard.nextPos count.toNat time.toNat).v)
      (s := { s.heard with pos := s.heard.nextPos count.toNat time.toNat }) hlast hroom
    rw [hraised] at hlog
    obtain ⟨more, hmore⟩ := hlog
    exact ⟨more, hmore.symm.trans (List.append_assoc _ _ _)⟩

end Sys2Proof.Machine

/-! ## Settled: an advance reaches the blocks -/

namespace Sys2Proof.Machine

/-! ### CAM's channel under CAM's work -/

theorem State.eitherOrder_choice (f g : State → State) (s : State) :
    eitherOrder f g s = g (f s.choose.2) ∨ eitherOrder f g s = f (g s.choose.2) := by
  unfold eitherOrder
  dsimp only
  split
  · exact .inl rfl
  · exact .inr rfl

@[simp] theorem State.countEdge_cam (c : Fin 24) (position : Int) (s : State) : (s.countEdge c position).cam = s.cam := by
  rw [State.countEdge, State.bumpIf_cam, State.bumpIf_cam]

@[simp] theorem State.placeTimed_cam (c : Fin 24) (on : Bool) (position : Int) (serial : Nat) (s : State) :
    (s.placeTimed c on position serial).cam = s.cam := State.placeOutbound_cam _ s

/-- The active OFF of an ON edge (R80). -/
def State.activeOf (s : State) (c : Fin 24) (w : Window) (on off : Nat) : ActiveOff :=
  ⟨w.serial, offPitch w.target on off, off, minimumOff (s.onFiring c w.target on) (s.channel c).dwellMin s.pos.s, false⟩

theorem State.issueOn_cam (c : Fin 24) (w : Window) (on off : Nat) (s : State) :
    (s.issueOn c w on off).cam = updateAt s.cam c fun x => gateZero (s.channel c).function
      { x with schedule := x.schedule.tail, level := .on, activeOff := some (s.activeOf c w on off) } := by
  unfold State.issueOn
  dsimp only
  rw [State.setCam, State.placeTimed_cam, State.countEdge_cam]
  rfl

theorem State.issueOff_cam (c : Fin 24) (a : ActiveOff) (s : State) :
    (s.issueOff c a).cam = updateAt s.cam c fun x => gateZero (s.channel c).function
      { x with level := .off, activeOff := none } := by
  unfold State.issueOff
  dsimp only
  rw [State.setCam, State.placeTimed_cam, State.countEdge_cam, State.bumpIf_cam]

theorem State.camChannel_of_cam {s t : State} {c : Fin 24} {f : CamChannel → CamChannel} (h : t.cam = updateAt s.cam c f) :
    t.camChannel c = f (s.camChannel c) := by
  rw [State.camChannel, h, updateAt_get, if_pos rfl]
  rfl

@[simp] theorem gateZero_schedule (fn : ActFunction) (x : CamChannel) : (gateZero fn x).schedule = x.schedule := by
  unfold gateZero
  split <;> rfl

@[simp] theorem gateZero_activeOff (fn : ActFunction) (x : CamChannel) : (gateZero fn x).activeOff = x.activeOff := by
  unfold gateZero
  split <;> rfl

theorem State.issueOn_schedule (c : Fin 24) (w : Window) (on off : Nat) (s : State) :
    ((s.issueOn c w on off).camChannel c).schedule = (s.camChannel c).schedule.tail := by
  rw [State.camChannel_of_cam (s.issueOn_cam c w on off), gateZero_schedule]

theorem State.issueOff_schedule (c : Fin 24) (a : ActiveOff) (s : State) :
    ((s.issueOff c a).camChannel c).schedule = (s.camChannel c).schedule := by
  rw [State.camChannel_of_cam (s.issueOff_cam c a), gateZero_schedule]

theorem State.issueOff_activeOff (c : Fin 24) (a : ActiveOff) (s : State) :
    ((s.issueOff c a).camChannel c).activeOff = none := by
  rw [State.camChannel_of_cam (s.issueOff_cam c a), gateZero_activeOff]

theorem State.setCam_same (c : Fin 24) (f : CamChannel → CamChannel) (s : State) :
    (s.setCam c f).camChannel c = f (s.camChannel c) := State.camChannel_of_cam rfl

theorem State.dropHead_schedule (c : Fin 24) (s : State) :
    ((s.dropHead c).camChannel c).schedule = (s.camChannel c).schedule.tail := by
  rw [State.dropHead, State.setCam_same]

theorem State.fire_schedule (c : Fin 24) (w : Window) (on off : Nat) (s : State) :
    ((s.fire c w on off).camChannel c).schedule = (s.camChannel c).schedule.tail := by
  unfold State.fire
  split
  · exact State.issueOn_schedule c w on off s
  · split
    · rw [State.merge, State.setCam_same]
    · rw [State.issueOn_schedule, State.issueOff_schedule]

theorem State.noFire_schedule (c : Fin 24) (s : State) :
    ((s.noFire c).camChannel c).schedule = (s.camChannel c).schedule.tail := by
  unfold State.noFire
  dsimp only
  split
  · split
    · rw [State.issueOff_schedule, State.dropHead_schedule]
    · exact State.dropHead_schedule c s
  · exact State.dropHead_schedule c s

/-! ### A final point leaves CAM alone -/

@[simp] theorem State.settleGood_cam (r : Record) (s : State) : (s.settleGood r).cam = s.cam := by
  unfold State.settleGood
  split <;> rfl

@[simp] theorem State.settleDiverted_cam (r : Record) (s : State) : (s.settleDiverted r).cam = s.cam := by
  unfold State.settleDiverted
  dsimp only
  split <;> rfl

@[simp] theorem State.settleUndiverted_cam (r : Record) (s : State) : (s.settleUndiverted r).cam = s.cam := by
  unfold State.settleUndiverted
  dsimp only
  rw [State.raise_cam]
  split
  · rw [State.writeLot_cam, State.bumpIf_cam, State.writeRecord_cam]
  · rw [State.bumpIf_cam, State.writeRecord_cam]

/-- CAM's action and the record's settlement, in either order: the schedule moves as the action moves it. -/
theorem State.eitherOrder_schedule {c : Fin 24} {f g : State → State}
    (hf : ∀ t, ((f t).camChannel c).schedule = (t.camChannel c).schedule.tail) (hg : ∀ t, (g t).cam = t.cam) (s : State) :
    ((eitherOrder f g s).camChannel c).schedule = (s.camChannel c).schedule.tail := by
  have hkept (t : State) : (g t).camChannel c = t.camChannel c := by rw [State.camChannel, hg]; rfl
  rcases State.eitherOrder_choice f g s with he | he
  · rw [he, hkept, hf]
    rfl
  · rw [he, hf, hkept]
    rfl

/-- Every ON edge taken takes the head window off the schedule (R79 to R85). -/
theorem State.gateDue_schedule (c : Fin 24) (w : Window) (on off : Nat) (s : State) :
    ((s.gateDue c w on off).camChannel c).schedule = (s.camChannel c).schedule.tail := by
  have hrest (a : ActiveOff) (t : State) :
      (((t.dropHead c).issueOff c a).camChannel c).schedule = (t.camChannel c).schedule.tail := by
    rw [State.issueOff_schedule, State.dropHead_schedule]
  unfold State.gateDue
  split
  · exact State.noFire_schedule c s
  · split
    · exact State.eitherOrder_schedule (State.noFire_schedule c) (State.settleGood_cam _) s
    · split
      · exact State.eitherOrder_schedule (State.fire_schedule c w on off) (State.settleDiverted_cam _) s
      · split
        · exact State.eitherOrder_schedule (hrest _) (State.settleUndiverted_cam _) s
        · exact State.eitherOrder_schedule (State.fire_schedule c w on off) (State.settleDiverted_cam _) s

theorem State.takeOn_schedule (c : Fin 24) (w : Window) (on off : Nat) (s : State) :
    ((s.takeOn c w on off).camChannel c).schedule = (s.camChannel c).schedule.tail := by
  have hby (p : Prop) [Decidable p] (r : Nat) :
      ((if p then (s.writeSuppressed r c).noFire c else s.fire c w on off).camChannel c).schedule =
        (s.camChannel c).schedule.tail := by
    split
    · rw [State.noFire_schedule]
      rfl
    · exact State.fire_schedule c w on off s
  unfold State.takeOn
  cases (s.channel c).function with
  | gate => exact State.gateDue_schedule c w on off s
  | finger =>
    dsimp only
    split
    · exact State.fire_schedule c w on off s
    · exact State.noFire_schedule c s
  | knife => exact State.fire_schedule c w on off s
  | fold => exact State.fire_schedule c w on off s
  | gum => exact hby _ _
  | patch => exact hby _ _
  | general => exact hby _ _

/-! ### The steps of R78 come to an end -/

/-- Twice the windows of a channel, and one for an active OFF that is not held: what every step of R78 lowers. -/
def CamChannel.stepsLeft (x : CamChannel) : Nat := 2 * x.schedule.length + if x.activeOff.any (!·.held) then 1 else 0

theorem CamChannel.stepsLeft_le (x : CamChannel) : x.stepsLeft ≤ 2 * x.schedule.length + 1 := by
  unfold CamChannel.stepsLeft
  split <;> omega

/-- The active OFF that has come due is held or issued (R81). -/
theorem State.takeOff_cases (s : State) (c : Fin 24) (a : ActiveOff) :
    s.takeOff c a = s.setCam c (fun x => { x with activeOff := some { a with held := true } }) ∨
      s.takeOff c a = s.issueOff c a := ite_eq_or_eq _ _ _

theorem State.takeOff_stepsLeft {c : Fin 24} {a : ActiveOff} {s : State} (ha : (s.camChannel c).activeOff = some a)
    (hheld : a.held = false) : ((s.takeOff c a).camChannel c).stepsLeft < (s.camChannel c).stepsLeft := by
  have hbefore : (s.camChannel c).stepsLeft = 2 * (s.camChannel c).schedule.length + 1 := by
    simp [CamChannel.stepsLeft, ha, hheld]
  have hafter (t : State) (hs : (t.camChannel c).schedule = (s.camChannel c).schedule)
      (h : (t.camChannel c).activeOff.any (!·.held) = false) : (t.camChannel c).stepsLeft < (s.camChannel c).stepsLeft := by
    rw [hbefore, CamChannel.stepsLeft, hs, h]
    exact Nat.lt_succ_self _
  rcases s.takeOff_cases c a with he | he
  · rw [he]
    refine hafter _ ?_ ?_
    · rw [State.setCam_same]
    · rw [State.setCam_same]
      rfl
  · rw [he]
    exact hafter _ (State.issueOff_schedule c a s) (by rw [State.issueOff_activeOff]; rfl)

theorem State.offStep_stepsLeft {c : Fin 24} {s t : State} (h : s.offStep c = some t) :
    (t.camChannel c).stepsLeft < (s.camChannel c).stepsLeft := by
  unfold State.offStep at h
  split at h
  · next a ha =>
    split at h
    · next hdue =>
      obtain rfl := Option.some.inj h
      rw [Bool.and_eq_true, Bool.not_eq_true'] at hdue
      exact State.takeOff_stepsLeft ha hdue.1
    · contradiction
  · contradiction

theorem State.camStep_stepsLeft {c : Fin 24} {s t : State} (h : s.camStep c = some t) :
    (t.camChannel c).stepsLeft < (s.camChannel c).stepsLeft := by
  unfold State.camStep at h
  split at h
  · next w rest hschedule =>
    split at h
    · next on off hangles =>
      split at h
      · obtain rfl := Option.some.inj h
        have htaken := State.takeOn_schedule c w on off s
        have hle := CamChannel.stepsLeft_le ((s.takeOn c w on off).camChannel c)
        have hge : 2 * (s.camChannel c).schedule.length ≤ (s.camChannel c).stepsLeft := Nat.le_add_right _ _
        rw [htaken, hschedule, List.tail_cons] at hle
        rw [hschedule, List.length_cons] at hge
        omega
      · exact State.offStep_stepsLeft h
    · exact State.offStep_stepsLeft h
  · exact State.offStep_stepsLeft h

theorem State.camStep_spent {c : Fin 24} {s : State} (h : (s.camChannel c).stepsLeft = 0) : s.camStep c = none := by
  cases hstep : s.camStep c with
  | none => rfl
  | some t => exact absurd (State.camStep_stepsLeft hstep) (by omega)

/-- With enough fuel no step is left. -/
theorem camLoop_settles {c : Fin 24} : ∀ {n : Nat} {s : State}, (s.camChannel c).stepsLeft ≤ n →
    (camLoop c n s).camStep c = none
  | 0, _, h => State.camStep_spent (Nat.le_zero.mp h)
  | n + 1, s, h => by
    unfold camLoop
    cases hstep : s.camStep c with
    | none => exact hstep
    | some t => exact camLoop_settles (by have := State.camStep_stepsLeft hstep; omega)

theorem camLoop_idle {c : Fin 24} {s : State} (n : Nat) (h : s.camStep c = none) : camLoop c n s = s := by
  cases n with
  | zero => rfl
  | succ n => rw [camLoop, h]

/-- More fuel than enough makes no difference. -/
theorem camLoop_enough {c : Fin 24} : ∀ {n m : Nat} {s : State}, (s.camChannel c).stepsLeft ≤ n →
    (s.camChannel c).stepsLeft ≤ m → camLoop c n s = camLoop c m s
  | 0, m, _, hn, _ => (camLoop_idle m (State.camStep_spent (Nat.le_zero.mp hn))).symm
  | n + 1, 0, _, _, hm => camLoop_idle (n + 1) (State.camStep_spent (Nat.le_zero.mp hm))
  | n + 1, m + 1, s, hn, hm => by
    unfold camLoop
    cases hstep : s.camStep c with
    | none => rfl
    | some t =>
      have hless := State.camStep_stepsLeft hstep
      exact camLoop_enough (by omega) (by omega)

theorem State.testChannel_idle {c : Fin 24} {s : State} (h : s.camStep c = none) : s.testChannel c = s := camLoop_idle _ h

theorem State.testChannel_step {c : Fin 24} {s t : State} (h : s.camStep c = some t) :
    s.testChannel c = t.testChannel c := by
  have hless := State.camStep_stepsLeft h
  have hs := (s.camChannel c).stepsLeft_le
  have ht := (t.camChannel c).stepsLeft_le
  unfold State.testChannel
  rw [camLoop, h]
  exact camLoop_enough (by omega) (by omega)

theorem State.testChannel_settles (s : State) (c : Fin 24) : (s.testChannel c).camStep c = none :=
  camLoop_settles (by have := (s.camChannel c).stepsLeft_le; omega)

/-! ### The order of the turns -/

/-- Of two turns taken once, the one with the lower index stands ahead. -/
theorem settlesFirst_split {order : List Turn} (hall : order.Perm allTurns) (h : settlesFirst order = true) :
    ∃ before between after, order = before ++ .cam :: between ++ .trq :: after := by
  have hcam : Turn.cam ∈ order := hall.mem_iff.mpr (by decide)
  have htrq : Turn.trq ∈ order := hall.mem_iff.mpr (by decide)
  obtain ⟨before, rest, rfl, hnot⟩ := List.eq_append_cons_of_mem hcam
  have hlater : Turn.trq ∉ before := fun hmem => by
    have hindex : (before ++ .cam :: rest).idxOf .trq < before.length := by
      rw [List.idxOf_append_of_mem hmem]
      exact List.idxOf_lt_length_of_mem hmem
    have hlt : (before ++ .cam :: rest).idxOf .cam < (before ++ .cam :: rest).idxOf .trq := of_decide_eq_true h
    rw [List.idxOf_append_of_notMem hnot] at hlt
    omega
  have hin : Turn.trq ∈ rest := by
    rcases List.mem_append.mp htrq with hb | hb
    · exact absurd hb hlater
    · exact (List.mem_cons.mp hb).resolve_left Turn.noConfusion
  obtain ⟨between, after, rfl⟩ := List.append_of_mem hin
  exact ⟨before, between, after, by rw [List.append_assoc]; rfl⟩

/-! ### What a turn does -/

theorem reached_eq (previous new : Nat) (x : Int) :
    reached previous new x = decide ((previous : Int) < x ∧ x ≤ (new : Int)) := (Bool.decide_and ..).symm

theorem State.regAdvance_running {previous new : Nat} {s : State} (h : s.running = true) :
    s.regAdvance previous new =
      (s.reg.marks.filter fun m => decide ((previous : Int) < m.stop + 128 ∧ m.stop + 128 ≤ (new : Int))).foldl
        State.decideMark s := by
  rw [State.regAdvance, if_pos h]
  exact congrArg (List.foldl State.decideMark s ·) (List.filter_congr fun m _ => reached_eq previous new _)

theorem foldl_acceptOpen_line (l : List (Fin 16)) (s : State) : (l.foldl State.acceptOpen s).sup.line = s.sup.line := by
  induction l generalizing s with
  | nil => rfl
  | cons i l ih => exact (ih _).trans (s.acceptOpen_still i).line

/-- Whether an advance reaches the close position of an alternative (R103). -/
def Alternative.closes (previous new : Nat) (a : Alternative) : Bool :=
  decide ((previous : Int) < a.stop + 128 ∧ a.stop + 128 ≤ (new : Int))

theorem pastClose_eq (previous new : Nat) :
    Alternative.pastClose previous new = fun a => { a with passed := a.passed || a.closes previous new } :=
  funext fun a => congrArg (fun b => { a with passed := a.passed || b }) (reached_eq previous new _)

/-- The check that an advance closes, with its alternative passed (R103). -/
def PendingCheck.closing (previous new : Nat) (p : PendingCheck) : Option (Nat × Alternative) :=
  match p.resolved, p.alternatives with
  | true, [a] =>
    if a.closes previous new then some (p.serial, { a with passed := a.passed || a.closes previous new }) else none
  | _, _ => none

theorem State.closeIfDue_eq (previous new : Nat) (i : Fin 16) (s : State) (p : PendingCheck) :
    s.closeIfDue previous new i p =
      match p.closing previous new with
      | some due => s.closeCheck i due.1 due.2
      | none => s := by
  obtain ⟨serial, birth, target, resolved, alternatives⟩ := p
  rcases resolved with - | -
  · rfl
  · rcases alternatives with - | ⟨a, - | -⟩
    · rfl
    · unfold State.closeIfDue PendingCheck.closing
      dsimp only
      rw [reached_eq, pastClose_eq]
      show (if a.closes previous new = true then _ else _) = _
      split <;> rfl
    · rfl

/-- Step 2 of R107 for one input, the checks that close told ahead. -/
theorem State.closeInput_eq (previous new : Nat) (s : State) (i : Fin 16) :
    s.closeInput previous new i =
      ((s.chkInput i).pending.filterMap (PendingCheck.closing previous new)).foldl (fun x due => x.closeCheck i due.1 due.2)
        (s.setChk i fun x => { x with pending := x.pending.map fun p =>
          { p with alternatives := p.alternatives.map fun a =>
            { a with passed := a.passed || a.closes previous new } } }) := by
  rw [List.foldl_filterMap, ← pastClose_eq]
  refine congrArg (fun f => List.foldl f _ _) (funext fun t => funext fun p => (t.closeIfDue_eq previous new i p).trans ?_)
  cases p.closing previous new <;> rfl

theorem State.chkAdvance_safe {previous new : Nat} {s : State} (h : s.sup.line = .safe) :
    s.chkAdvance previous new = inputIds.foldl State.acceptOpen s := by
  rw [State.chkAdvance]
  exact if_pos ((foldl_acceptOpen_line _ s).trans h)

theorem State.chkAdvance_open {previous new : Nat} {s : State} (h : s.sup.line ≠ .safe) :
    s.chkAdvance previous new = inputIds.foldl (State.closeInput previous new) (inputIds.foldl State.acceptOpen s) := by
  rw [State.chkAdvance]
  exact if_neg fun hsafe => h ((foldl_acceptOpen_line _ s).symm.trans hsafe)

/-- What a KNOWN sample without a motion fault makes of the state (R2, R7). -/
theorem State.takeSample_advances {count time : Nat} {s : State} (hknown : s.pos.state = .known)
    (hfault : s.motion count = none) :
    ((s.nextPos count time).held ≤ s.pos.held → s.takeSample count time = (s.measure count time).settle) ∧
      (s.pos.held < (s.nextPos count time).held → ∃ order : List Turn, order.Perm allTurns ∧ settlesFirst order = true ∧
        s.takeSample count time = order.foldl
          (State.takeTurn s.pos.held (s.nextPos count time).held (s.measure count time).sup.deferred)
          { s.measure count time with
            free := (s.measure count time).free + 1, sup := { (s.measure count time).sup with deferred := [] } }) := by
  rw [State.takeSample_measured hknown hfault]
  exact ⟨fun h => if_neg (not_lt.mpr h), fun h => ⟨advanceOrder (Config.pick (s.measure count time).free),
    advanceOrder_perm _, advanceOrder_settlesFirst _, if_pos h⟩⟩

/-- Settles O15: a sample without a fault is measured, then advanced in an order that takes CAM before TRQ; each block's turn
is its definition, and CAM's steps come to an end. -/
theorem advanceReachesTheBlocks : Obligations.AdvanceReachesTheBlocks := by
  refine ⟨fun src count time s hup hsrc hown hdrive hknown _ => ?_, fun previous new s => ⟨fun h => if_neg h,
    fun h hp => ?_, fun p h hp => ?_, fun h => ?_, State.regAdvance_running, ⟨_, rfl, foldl_acceptOpen_line _ s,
    State.chkAdvance_safe, State.chkAdvance_open⟩, fun i => ⟨fun lead hp hle => ?_, fun hp => ?_,
    s.closeInput_eq previous new i⟩, rfl, fun c => ⟨s.testChannel_settles c,
    State.testChannel_idle, fun u => State.testChannel_step⟩⟩⟩
  · refine ⟨s.heard.takeSample count.toNat time.toNat, ?_, fun hnear => ?_⟩
    · rw [exec_angle_passes src count time s hup hsrc hown, State.takeAngle_driveNode _ _ _ s.heard hdrive]
      rfl
    · have hpos : (s.heard.takeSample count.toNat time.toNat).pos = s.heard.nextPos count.toNat time.toNat :=
        State.takeSample_known hknown
      rw [hpos] at hnear ⊢
      have hfault : s.heard.motion count.toNat = none := State.motion_none (s := s.heard) (time := time.toNat) hnear
      have hmeasure := State.measure_calm (time := time.toNat) hfault
      obtain ⟨hsettled, hadvanced⟩ := State.takeSample_advances (s := s.heard) (time := time.toNat) hknown hfault
      refine ⟨s.heard.measure count.toNat time.toNat, fun hfast => ?_, fun hslow => ?_, hsettled, fun hmoved => ?_⟩
      · exact hmeasure.trans (if_pos ((State.comesToDebounce_iff _ _).mpr hfast))
      · exact hmeasure.trans (if_neg fun hcomes => hslow ((State.comesToDebounce_iff _ _).mp hcomes))
      · obtain ⟨order, hall, hfirst, htaken⟩ := hadvanced hmoved
        refine ⟨order, hall, settlesFirst_split hall hfirst, htaken.trans ?_⟩
        exact congrArg (fun f => List.foldl f _ order) (funext fun t => funext fun turn => by cases turn <;> rfl)
  · rw [State.lotAdvance, if_pos h, hp]
  · rw [State.lotAdvance, if_pos h, hp]
  · rw [State.regAdvance, h]
    rfl
  · rw [State.acceptOpen, hp]
    exact if_pos hle
  · unfold State.acceptOpen
    split
    · next lead hlead => exact if_neg (not_le.mpr (hp lead hlead))
    · rfl
    · rfl

end Sys2Proof.Machine

/-! ## Settled: the link, received frames and the transmitter -/

namespace Sys2Proof.Machine

/-! ### Requests off the ring -/

theorem takeRequest_heard {src code tag : Byte} {parts : Nat} {owner : State → State × Reply} {s : State}
    (hup : s.rif.linkUp = true) :
    takeRequest src code tag parts owner s.heard = takeRequest src code tag parts owner s := by
  unfold takeRequest
  rw [if_pos hup, if_pos (show s.heard.rif.linkUp = true from hup)]
  rfl

theorem Service.parts_heard {i : Instr} {v : Service} (hv : service i = some v) (s : State) : v.parts s.heard = v.parts s := by
  rw [← responseParts_service hv, ← responseParts_service hv]
  cases i <;> rfl

/-- A request is served as a whole frame or as a command of its own alike. -/
theorem Service.run_heard {v : Service} {s : State} (hparts : v.parts s.heard = v.parts s) (hup : s.rif.linkUp = true) :
    v.run s.heard = v.run s := by
  unfold Service.run
  rw [hparts, takeRequest_heard hup]

theorem Service.run_of_settled {v : Service} {s t : State} (h : takeRequest v.src v.code v.tag (v.parts s) v.owner s = t)
    (ht : v.settles = true → t.Settled) : v.run s = t := by
  unfold Service.run
  rw [h]
  split
  · next hsettles => exact State.settle_idle t (ht hsettles)
  · rfl

theorem Service.run_down (v : Service) {s : State} (hdown : s.rif.linkUp = false) (hs : s.Settled) : v.run s = s :=
  Service.run_of_settled (takeRequest_down _ _ _ _ _ s hdown) fun _ => hs

theorem Service.run_own {v : Service} {s : State} (hup : s.rif.linkUp = true) (hown : v.src = s.rif.own) (hs : s.Settled) :
    v.run s = s.heard := Service.run_of_settled (takeRequest_own _ _ _ _ _ s hup hown) fun _ => hs

theorem Service.run_dropped {v : Service} {s : State} (hup : s.rif.linkUp = true) (hsrc : v.src ≠ s.rif.own)
    (hroom : s.rif.freePlaces < v.parts s) (hs : s.Settled) : v.run s = s.heard.bump ctrMgmtDropped :=
  Service.run_of_settled (takeRequest_dropped _ _ _ _ _ s hup hsrc hroom) fun _ => hs

/-- A payload is served as the service it spells, or as an undecoded one. -/
theorem serveRequest_run (src : Byte) (payload : List Byte) : ∃ v : Service, v.src = src ∧
    (∀ s, serveRequest src payload s = v.run s) ∧ ∀ s : State, s.rif.linkUp = true → v.run s.heard = v.run s := by
  cases h : decodeRequest src payload with
  | none =>
    exact ⟨undecodedService src payload, rfl, serveRequest_undecoded h, fun s hup => Service.run_heard rfl hup⟩
  | some i =>
    obtain ⟨v, hv⟩ := decodeRequest_service h
    have hsrc := (encode_decodeRequest h).2
    rw [requestSource_service hv] at hsrc
    exact ⟨v, Option.some.inj hsrc, serveRequest_decoded h hv, fun s hup =>
      Service.run_heard (Service.parts_heard hv s) hup⟩

/-! ### Received frames -/

/-- A frame of ten bytes from the destination on carries no opening where it is addressed to no byte of one. -/
theorem carriesOpening_ten {b : Byte} {rest : List Byte} (hb : b ≠ 0xA5) (hlen : rest.length < 10) :
    carriesOpening (b :: rest) = false := by
  have hprefix : opening.isPrefixOf (b :: rest) = false := by
    rw [Bool.eq_false_iff]
    intro h
    obtain ⟨more, hmore⟩ := List.isPrefixOf_iff_prefix.mp h
    exact hb (List.head_eq_of_cons_eq hmore).symm
  rw [carriesOpening, hprefix, carriesOpening_short rest hlen]
  rfl

/-- Bytes without an opening that make a whole frame are received as it. -/
theorem exec_frameReceived {dst src kind : Byte} {payload : List Byte} (check : Half) (s : State)
    (hlen : payload.length ≤ 240) (hclean : carriesOpening (frameBody dst src kind payload ++ halfBytes check) = false) :
    exec (.frameReceived (frameBody dst src kind payload ++ halfBytes check)) s =
      .next (s.receive dst src kind payload check) := by
  refine (execFrameReceived_whole _ s hclean).trans ?_
  rw [State.takeFrame, splitFrame_body _ _ _ _ _ hlen]

/-- Settles O4: ten bytes to the broadcast address cannot carry an opening; a request is served alike as a frame and as a
command. -/
theorem receivedFrameDoesWhatItSpells : Obligations.ReceivedFrameDoesWhatItSpells := by
  refine ⟨fun src count time check s => ?_, fun src point level count check s => ?_, fun src payload s hs hlen => ?_⟩
  · exact exec_frameReceived check s (by decide : (4 : Nat) ≤ 240) (carriesOpening_ten (by decide) (by decide : (9 : Nat) < 10))
  · exact exec_frameReceived check s (by decide : (4 : Nat) ≤ 240) (carriesOpening_ten (by decide) (by decide : (9 : Nat) < 10))
  · refine ⟨fun hclean => ?_, fun i hi => ?_⟩
    · rw [exec_frameReceived _ s hlen hclean]
      obtain ⟨v, hsrc, hserve, hheard⟩ := serveRequest_run src payload
      show Host.Outcome.next _ = Host.Outcome.next (serveRequest src payload s)
      rw [hserve]
      refine congrArg Host.Outcome.next ?_
      cases hup : s.rif.linkUp with
      | false => rw [State.receive_down _ _ _ _ _ s hup, Service.run_down v hup hs]
      | true =>
        rw [State.receive_passes _ _ _ _ s hup hlen]
        by_cases hown : src = s.rif.own
        · rw [Service.run_own hup (hsrc.trans hown) hs]
          exact if_pos hown
        · refine (if_neg hown).trans ((if_pos rfl).trans ((if_pos rfl).trans ?_))
          rw [hserve, hheard s hup]
    · obtain ⟨v, hv⟩ := decodeRequest_service hi
      rw [exec_service hv, ← serveRequest_decoded hi hv]
      rfl

/-- Settles O5: a frame is the opening and the body with its check, which splits into the fields it was made from. -/
theorem sentFrameReadsBackWithItsCheck : Obligations.SentFrameReadsBackWithItsCheck := by
  refine ⟨by decide +kernel, fun own dst kind payload hlen => ⟨rfl, ?_, ?_⟩⟩
  · have hopening : opening.length = 10 := rfl
    simp only [wireFrame, frameBody, halfBytes, List.length_append, List.length_cons, List.length_nil, hopening]
    omega
  · exact splitFrame_body dst own kind payload _ hlen

/-! ### The link -/

/-- The signal lost while UP: RIF, a counter and LINK_DOWN (R169). -/
theorem State.loseSignal_up (cut : Bool) {s : State} (hup : s.rif.linkUp = true) :
    s.loseSignal cut =
      (({ s with rif := { s.rif with linkUp := false, linkDownFlag := true, partialBytes := 0 } } : State).bumpIf
        (cut || 0 < s.rif.partialBytes) ctrBadCheck).raise .linkDown .none (.number 0) := if_pos hup

theorem State.bumpIf_counters (p : Bool) (c : Fin 38) (s : State) :
    (s.bumpIf p c).sup.counters.get c = if p = true then saturate (s.sup.counters.get c) else s.sup.counters.get c := by
  cases p
  · rfl
  · exact (s.bump_counters c c).trans (if_pos rfl)

/-- A notice counts no event but its own loss. -/
theorem State.notice_counter {c : Fin 38} (n : Notice) (s : State) (hc : c ≠ ctrNoticesDropped) :
    (s.notice n).sup.counters.get c = s.sup.counters.get c := by
  rcases s.notice_cases n with ⟨-, h⟩ | ⟨-, h⟩
  · rw [h]
  · rw [h, State.bump_counters, if_neg hc]

theorem State.raiseAt_counter {c : Fin 38} (k : FaultKind) (e : Effect) (p : Nat) (d : Detail) (s : State)
    (hc : c ≠ ctrNoticesDropped) : (s.raiseAt k e p d).sup.counters.get c = s.sup.counters.get c := by
  rw [State.raiseAt_notice, State.notice_counter _ _ hc]
  rfl

/-- Settles O7: a loss while UP is `State.loseSignal_up`; a fault of effect NONE leaves nothing waiting. -/
theorem linkFollowsTheSignal : Obligations.LinkFollowsTheSignal := by
  refine ⟨fun s => rfl, fun cut s hdown => ?_, fun cut s hup => ⟨_, rfl, ?_⟩⟩
  · show Host.Outcome.next (s.loseSignal cut) = _
    rw [State.loseSignal, hdown]
    rfl
  · rw [State.loseSignal_up cut hup]
    generalize hlost : ({ s with rif := { s.rif with linkUp := false, linkDownFlag := true, partialBytes := 0 } } : State) = t
    generalize hcut : (cut || decide (0 < s.rif.partialBytes)) = counts
    have hsup : t.sup = s.sup := by rw [← hlost]
    have hpitch : (t.bumpIf counts ctrBadCheck).pitch = s.pitch := by
      rw [State.pitch, State.bumpIf_pos, ← hlost]
      rfl
    have hrif : (t.bumpIf counts ctrBadCheck).rif = t.rif := State.bumpIf_rif _ _ t
    unfold State.raise
    rw [hpitch]
    refine ⟨?_, ?_, ?_, fun hlast => ?_, fun hlast hroom => ?_, ?_, ?_, ?_, ?_, ?_⟩
    · rw [State.raiseAt_rif_linkUp, hrif, ← hlost]
    · rw [State.raiseAt_rif_linkDownFlag, hrif, ← hlost]
    · rw [State.raiseAt_rif_partialBytes, hrif, ← hlost]
    · rw [State.raiseAt_sup_lastSequence, State.bumpIf_sup_lastSequence, hsup, if_neg (by omega)]
    · rw [State.raiseAt_log, State.bumpIf_sup_lastSequence, State.bumpIf_sup_log, State.bumpIf_sup_line, hsup,
        if_pos ⟨by omega, hroom⟩]
    · rw [State.raiseAt_counter _ _ _ _ _ (by decide), State.bumpIf_counters, hsup, ← hcut]
      simp only [Bool.or_eq_true, decide_eq_true_eq]
    · rw [State.raiseAt_sup_line, State.bumpIf_sup_line, hsup]
    · rw [State.raiseAt_sup_reason, State.bumpIf_sup_reason, hsup]
    · rw [State.raiseAt_sup_deferred, State.bumpIf_sup_deferred, hsup]
      exact List.append_nil _
    · rw [State.raiseAt_eq, State.bumpIf_eq, ← hlost]

/-- Settles O8: every other command finds the link DOWN before it does anything. -/
theorem nothingArrivesWhileTheLinkIsDown : Obligations.NothingArrivesWhileTheLinkIsDown := by
  intro i s hdown hs hreset hdetected htimer hdone
  cases hv : service i with
  | some v => rw [exec_service hv, Service.run_down v hdown hs]
  | none =>
    have hcut (cause : CutCause) : s.cutShort cause = s := if_neg (by rw [hdown]; exact Bool.false_ne_true)
    cases i with
    | powerOnReset strap => exact absurd rfl (hreset strap)
    | signalDetected => exact absurd rfl hdetected
    | motionTimerExpiry => exact absurd rfl htimer
    | transmitDone n => exact absurd rfl (hdone n)
    | signalLost cut => exact linkFollowsTheSignal.2.1 cut s hdown
    | angle src count time check => exact congrArg Host.Outcome.next (State.receive_down _ _ _ _ _ s hdown)
    | edge src point level count check => exact congrArg Host.Outcome.next (State.receive_down _ _ _ _ _ s hdown)
    | frameCutShort cause => exact congrArg Host.Outcome.next (hcut cause)
    | requestUndecoded src payload =>
      obtain ⟨v, -, hserve, -⟩ := serveRequest_run src payload
      exact congrArg Host.Outcome.next ((hserve s).trans (Service.run_down v hdown hs))
    | frameReceived bytes =>
      have hframe : s.takeFrame bytes = s := by
        unfold State.takeFrame
        split
        · exact State.receive_down _ _ _ _ _ s hdown
        · rw [State.receiveBroken, hdown]
          rfl
      rcases execFrameReceived_cases bytes s with ⟨h, -⟩ | ⟨h, -⟩
      · exact h.trans (congrArg Host.Outcome.next hframe)
      · exact h.trans (congrArg Host.Outcome.next (hcut _))
    | _ => contradiction

/-! ### Frames by the rows of R171 -/

theorem Rif.arbitrate_forward {r : Rif} {f : List Byte} {rest : List (List Byte)} (hidle : r.tx = .idle)
    (h : r.forward = f :: rest) : r.arbitrate = { r with forward := rest, tx := .sending .forward (opening ++ f) } := by
  rw [Rif.arbitrate, hidle, h]

/-- Settles O9: the rows are the branches of `State.handleFrame`; forwarding puts the frame at the tail, and an idle
transmitter is handed the head. -/
theorem receivedFrameIsRemovedDroppedOrForwarded : Obligations.ReceivedFrameIsRemovedDroppedOrForwarded := by
  refine ⟨?_, fun r bytes => ⟨fun src sent hbusy => ?_, fun hidle hempty => ?_, fun f rest hidle hwaits => ?_⟩⟩
  · intro dst src kind payload s hup hlen body bytes hclean
    have hframe : exec (.frameReceived bytes) s = .next (s.heard.handleFrame dst src kind payload bytes) :=
      (exec_frameReceived _ s hlen hclean).trans (congrArg _ (State.receive_passes _ _ _ _ s hup hlen))
    rw [hframe, State.handleFrame]
    refine ⟨fun hown => ?_, fun hsrc hown hkind => ?_, fun hsrc hdst hcopy => ?_⟩
    · exact congrArg _ (if_pos hown)
    · rw [if_neg (show ¬src = s.heard.rif.own from hsrc), if_pos (show dst = s.heard.rif.own from hown),
        if_neg (show ¬kind = kindRequest from hkind)]
    · rw [if_neg (show ¬src = s.heard.rif.own from hsrc), if_neg (show ¬dst = s.heard.rif.own from hdst),
        if_neg fun h => hcopy ⟨h.1, .inl h.2⟩, if_neg fun h => hcopy ⟨h.1, .inr h.2⟩]
      rfl
  · exact Rif.arbitrate_busy _ fun hidle => Transmitter.noConfusion (hbusy.symm.trans hidle)
  · refine (Rif.arbitrate_forward (r := { r with forward := r.forward ++ [bytes] }) (f := bytes) (rest := []) hidle
      (congrArg (· ++ [bytes]) hempty)).trans ?_
    obtain ⟨own, up, flag, fwd, partialBytes, out, mark, mgmt, res, tx⟩ := r
    obtain rfl : fwd = [] := hempty
    rfl
  · exact Rif.arbitrate_forward (f := f) (rest := rest ++ [bytes]) hidle (congrArg (· ++ [bytes]) hwaits)

/-! ### Frames that fail their check -/

theorem State.receive_long {dst src kind : Byte} {payload : List Byte} (check : Half) {s : State}
    (hup : s.rif.linkUp = true) (h : 240 < payload.length) :
    s.receive dst src kind payload check = s.heard.bump ctrBadCheck := by
  unfold State.receive
  rw [if_pos hup]
  exact if_neg fun hc => absurd hc.1 (Nat.not_le.mpr h)

theorem State.receiveBroken_up {s : State} (hup : s.rif.linkUp = true) : s.receiveBroken = s.heard.bump ctrBadCheck :=
  if_pos hup

/-- The payload of bytes that split into fields is as long as their length field says. -/
theorem splitFrame_some {dst src kind len : Byte} {rest : List Byte} {fields : Byte × Byte × Byte × List Byte × Half}
    (h : splitFrame (dst :: src :: kind :: len :: rest) = some fields) :
    rest.length = len.toNat + 2 ∧ fields.2.2.2.1.length = len.toNat := by
  unfold splitFrame at h
  dsimp only at h
  split at h
  · next hi lo hrest =>
    have hlength : rest.length - len.toNat = 2 := by rw [← List.length_drop, hrest]; rfl
    rw [← Option.some.inj h]
    refine ⟨by omega, ?_⟩
    rw [List.length_take]
    omega
  · contradiction

/-- Bytes whose length field is above 240 or not that of the payload fail the check (R170; log 9). -/
theorem State.takeFrame_misfit {dst src kind len : Byte} {rest : List Byte} {s : State} (hup : s.rif.linkUp = true)
    (h : 240 < len.toNat ∨ rest.length ≠ len.toNat + 2) :
    s.takeFrame (dst :: src :: kind :: len :: rest) = s.heard.bump ctrBadCheck := by
  unfold State.takeFrame
  split
  · next hsplit =>
    obtain ⟨hrest, hpayload⟩ := splitFrame_some hsplit
    exact State.receive_long _ hup (hpayload ▸ h.resolve_right fun hne => hne hrest)
  · exact State.receiveBroken_up hup

theorem splitFrame_short {bytes : List Byte} (h : bytes.length < 4) : splitFrame bytes = none := by
  rcases bytes with - | ⟨a, - | ⟨b, - | ⟨c, - | ⟨d, rest⟩⟩⟩⟩
  · rfl
  · rfl
  · rfl
  · rfl
  · simp only [List.length_cons] at h
    omega

theorem cutByOpening_of_dropLast {bytes : List Byte} (h : carriesOpening bytes.dropLast = true) :
    cutByOpening bytes = true := by
  rw [cutByOpening, h, Bool.true_or]

/-- Settles O10: every way to fail the check ends in one count, the port freed. -/
theorem failingFrameIsOnlyCounted : Obligations.FailingFrameIsOnlyCounted := by
  intro s hup counted
  refine ⟨fun dst src kind payload check hlen hcheck hclean => ?_, fun dst src kind len rest hmisfit hclean => ?_,
    fun bytes hlen => ?_, fun src count time check hcheck => ?_, fun src point level count check hcheck => ?_, ?_,
    ⟨_, rfl, ?_⟩, fun bytes hcut => ?_, fun bytes _ _ => ?_⟩
  · rw [exec_frameReceived check s hlen hclean, State.receive_fails _ _ _ _ _ s hup hcheck]
    rfl
  · refine (execFrameReceived_whole _ s hclean).trans ?_
    rw [State.takeFrame_misfit hup hmisfit]
    rfl
  · refine (execFrameReceived_whole bytes s (carriesOpening_short bytes (by omega))).trans ?_
    rw [State.takeFrame, splitFrame_short hlen]
    exact congrArg Host.Outcome.next (State.receiveBroken_up hup)
  · exact congrArg Host.Outcome.next (State.receive_fails _ _ _ _ _ s hup hcheck)
  · exact congrArg Host.Outcome.next (State.receive_fails _ _ _ _ _ s hup hcheck)
  · exact congrArg Host.Outcome.next (if_pos hup)
  · rw [State.cutShort, if_pos hup]
    rfl
  · show execFrameReceived bytes s = _
    rw [execFrameReceived, if_pos (cutByOpening_of_dropLast hcut)]
    rfl
  · rcases execFrameReceived_cases bytes s with ⟨h, -⟩ | ⟨h, -⟩
    · exact .inr h
    · exact .inl h

/-! ### The transmitter -/

theorem Rif.arbitrateManagement_sends {r : Rif} {f : MgmtFrame} {rest : List MgmtFrame} (h : r.management = f :: rest)
    (hfits : frameLength f.payload ≤ r.freeRoom) :
    r.arbitrateManagement = { r with management := rest, tx := .sending .management (f.wire r.own) } := by
  rw [Rif.arbitrateManagement, h]
  exact if_pos hfits

theorem Rif.arbitrateManagement_waits {r : Rif} (h : ∀ g ∈ r.management.head?, ¬frameLength g.payload ≤ r.freeRoom) :
    r.arbitrateManagement = r := by
  unfold Rif.arbitrateManagement
  split
  · next f rest hq => exact if_neg (h f (by rw [hq]; rfl))
  · rfl

theorem Rif.arbitrateOwn_sends {r : Rif} {f : OutFrame} {rest : List OutFrame} (h : r.outbound = f :: rest)
    (hfits : frameLength f.payload ≤ r.freeRoom) :
    r.arbitrateOwn = { r with outbound := rest, overrun := false, tx := .sending .outbound (f.wire r.own) } := by
  rw [Rif.arbitrateOwn, h]
  exact if_pos hfits

theorem Rif.arbitrateOwn_waits {r : Rif} (h : ∀ g ∈ r.outbound.head?, ¬frameLength g.payload ≤ r.freeRoom) :
    r.arbitrateOwn = r.arbitrateManagement := by
  unfold Rif.arbitrateOwn
  split
  · next f rest hq => exact if_neg (h f (by rw [hq]; rfl))
  · rfl

theorem Rif.arbitrate_own_turn {r : Rif} (hidle : r.tx = .idle) (h : r.forward = []) : r.arbitrate = r.arbitrateOwn := by
  rw [Rif.arbitrate, hidle, h]

theorem Rif.freeRoom_empty {r : Rif} (h : r.forward = []) : r.freeRoom = 1024 - r.partialBytes := by
  rw [Rif.freeRoom, h]
  show 1024 - (0 + r.partialBytes) = _
  rw [Nat.zero_add]

/-- The transmitter's frame has ended: it is idle for the arbiter (R173). -/
def Rif.ended (r : Rif) (held : Nat) : Rif := { r with tx := .idle, partialBytes := held }

theorem Rif.finish_sending {r : Rif} {src : TxSource} {sent : List Byte} (n : Nat) (h : r.tx = .sending src sent) :
    r.finish n = (r.ended (if r.linkUp then n else 0)).arbitrate := by
  rw [Rif.finish, h]
  rfl

/-- Settles O11: the arbiter's three sources in their order. -/
theorem transmitDoneHandsOnInOrder : Obligations.TransmitDoneHandsOnInOrder := by
  refine ⟨fun n s hidle => ?_, ?_⟩
  · show Host.Outcome.next { s with rif := s.rif.finish n } = _
    rw [Rif.finish, hidle]
  · intro n s src sent hsending held fits idle
    have hdone : exec (.transmitDone n) s = .next { s with rif := (s.rif.ended held).arbitrate } :=
      congrArg (fun r : Rif => Host.Outcome.next ({ s with rif := r } : State)) (Rif.finish_sending n hsending)
    have hfits (h : s.rif.forward = []) (payload : List Byte) :
        fits payload ↔ frameLength payload ≤ (s.rif.ended held).freeRoom := by
      rw [Rif.freeRoom_empty (r := s.rif.ended held) h]
      rfl
    have hown (h : s.rif.forward = []) : (s.rif.ended held).arbitrate = (s.rif.ended held).arbitrateOwn :=
      Rif.arbitrate_own_turn rfl h
    rw [hdone]
    refine ⟨fun f rest hq => ?_, fun f rest hforward hq hfit => ?_, fun f rest hforward hout hq hfit => ?_,
      fun hforward hout hmgmt => ?_⟩
    · rw [Rif.arbitrate_forward (r := s.rif.ended held) rfl hq]
      rfl
    · rw [hown hforward, Rif.arbitrateOwn_sends (r := s.rif.ended held) hq ((hfits hforward _).mp hfit)]
      rfl
    · rw [hown hforward, Rif.arbitrateOwn_waits (r := s.rif.ended held) fun g hg => (hfits hforward _).not.mp (hout g hg),
        Rif.arbitrateManagement_sends (r := s.rif.ended held) hq ((hfits hforward _).mp hfit)]
      rfl
    · rw [hown hforward, Rif.arbitrateOwn_waits (r := s.rif.ended held) fun g hg => (hfits hforward _).not.mp (hout g hg),
        Rif.arbitrateManagement_waits (r := s.rif.ended held) fun g hg => (hfits hforward _).not.mp (hmgmt g hg)]
      rfl

/-- Settles O14: a frame joins the tail and is handed over where the transmitter is idle and nothing waits ahead; without a
place the first loss raises OUTBOUND_OVERRUN. -/
theorem outboundFrameJoinsOrIsLost : Obligations.OutboundFrameJoinsOrIsLost := by
  refine fun f s => ⟨fun hroom hbusy => ?_, fun hidle hforward hempty hfits => ?_, fun hfull hmarked => ?_,
    fun hfull hmark hbusy => ?_⟩
  · rw [State.placeOutbound_room f s hroom, Rif.pushOutbound_busy s.rif f hbusy]
  · have hroom : frameLength f.payload ≤ ({ s.rif with outbound := s.rif.outbound ++ [f] } : Rif).freeRoom := by
      rw [Rif.freeRoom_empty (r := { s.rif with outbound := s.rif.outbound ++ [f] }) hforward, frameLength]
      exact Nat.le_sub_of_add_le hfits
    have hqueue : ({ s.rif with outbound := s.rif.outbound ++ [f] } : Rif).outbound = [f] := by rw [hempty, List.nil_append]
    rw [State.placeOutbound_room f s (by rw [hempty]; decide), Rif.pushOutbound,
      Rif.arbitrate_own_turn (r := { s.rif with outbound := s.rif.outbound ++ [f] }) hidle hforward,
      Rif.arbitrateOwn_sends hqueue hroom]
    dsimp only
    rw [hempty]
  · rw [State.placeOutbound, if_neg (Nat.not_lt.mpr hfull), if_pos hmarked]
  · have hlost : s.placeOutbound f =
        { s with rif := { s.rif with overrun := true } }.raise .outboundOverrun .safe (.number f.kind.toNat) := by
      rw [State.placeOutbound, if_neg (Nat.not_lt.mpr hfull), hmark]
      rfl
    have hwire : ∃ mgmt, (s.placeOutbound f).rif = { s.rif with overrun := true, management := mgmt } := by
      rw [hlost, State.raise, State.raiseAt_notice]
      rcases State.notice_cases (.fault (State.faultRecord .outboundOverrun .safe
        ({ s with rif := { s.rif with overrun := true } } : State).pitch (.number f.kind.toNat)
        { s with rif := { s.rif with overrun := true } })
        ({ s with rif := { s.rif with overrun := true } } : State).storesFault) _ with ⟨-, h⟩ | ⟨-, h⟩
      · rw [h]
        exact ⟨_, Rif.pushManagement_busy _ _ hbusy⟩
      · rw [h]
        exact ⟨_, rfl⟩
    obtain ⟨mgmt, hrif⟩ := hwire
    refine ⟨by rw [hrif], by rw [hrif], ?_, fun hlast hroom => ?_⟩
    · rw [hlost]
      exact State.raiseAt_sup_deferred _ _ _ _ _
    · rw [hlost]
      exact State.raise_logs hlast hroom

/-! ### Requests and the parts of their responses -/

theorem respond_busy {r : Rif} {dst code tag : Byte} {st : Status} (hbusy : r.tx ≠ .idle) :
    ∀ (k : Nat) (parts : List (List Byte)) (mgmt : List MgmtFrame),
      ({ r with management := mgmt } : Rif).respond dst code tag st (k + 1) parts =
        { r with management := mgmt ++ parts.mapIdx fun j results =>
          .response ⟨dst, code, tag, st, k + j + 1, j + 1 == parts.length, results⟩ }
  | _, [], mgmt => by
    rw [List.mapIdx_nil, List.append_nil]
    rfl
  | k, p :: rest, mgmt => by
    have hlast : rest.isEmpty = (0 + 1 == (p :: rest).length) := by cases rest <;> rfl
    rw [Rif.respond, Rif.pushManagement_busy { r with management := mgmt } _ hbusy]
    refine (respond_busy (r := r) hbusy (k + 1) rest _).trans ?_
    rw [List.append_assoc, List.mapIdx_cons, hlast]
    have hnumber (j : Nat) : k + 1 + j = k + (j + 1) := by omega
    have hcount (j : Nat) : (j + 1 == rest.length) = (j + 1 + 1 == (p :: rest).length) := by
      rw [List.length_cons, Bool.eq_iff_iff, beq_iff_eq, beq_iff_eq]
      omega
    simp only [hnumber, hcount]
    rfl

/-- What a cut into parts holds (R178). -/
theorem cutParts_spec : ∀ (n : Nat) (results : List Byte), results.length ≤ 235 * (n + 1) →
    (cutParts n results).flatten = results ∧ (cutParts n results).length = partCount results.length ∧
      (∀ p ∈ (cutParts n results).dropLast, p.length = 235) ∧ ∀ p ∈ cutParts n results, p.length ≤ 235
  | 0, results, h => by
    refine ⟨List.append_nil _, ?_, fun p hp => absurd hp List.not_mem_nil, fun p hp => ?_⟩
    · show 1 = max 1 _
      omega
    · rw [List.mem_singleton.mp hp]
      omega
  | n + 1, results, h => by
    by_cases hone : results.length ≤ Config.partBytes
    · have hle : results.length ≤ 235 := hone
      rw [cutParts, if_pos hone]
      refine ⟨List.append_nil _, ?_, fun p hp => absurd hp List.not_mem_nil, fun p hp => ?_⟩
      · show 1 = max 1 _
        omega
      · rw [List.mem_singleton.mp hp]
        exact hle
    · have hmore : 235 < results.length := Nat.not_le.mp hone
      have hfull : (results.take 235).length = 235 := by rw [List.length_take]; omega
      have hrest : (results.drop 235).length = results.length - 235 := List.length_drop
      obtain ⟨hflat, hcount, hbut, hall⟩ := cutParts_spec n (results.drop 235) (by omega)
      have hne : cutParts n (results.drop 235) ≠ [] := by
        rw [← List.length_pos_iff, hcount, partCount]
        omega
      rw [cutParts, if_neg hone]
      show (results.take 235 :: cutParts n (results.drop 235)).flatten = _ ∧ _ ∧ _ ∧ _
      refine ⟨?_, ?_, fun p hp => ?_, fun p hp => ?_⟩
      · rw [List.flatten_cons, hflat, List.take_append_drop]
      · show (cutParts n (results.drop 235)).length + 1 = _
        rw [hcount, hrest, partCount, partCount]
        omega
      · rcases List.mem_cons.mp ((List.dropLast_cons_of_ne_nil hne) ▸ hp) with rfl | hp
        · exact hfull
        · exact hbut p hp
      · rcases List.mem_cons.mp hp with rfl | hp
        · exact hfull.le
        · exact hall p hp

/-- Settles O12: a service without room is dropped; an undecoded request has an owner that answers BAD_VALUE; the parts are
cut and placed one by one. -/
theorem requestsAreDroppedOrAnsweredInParts : Obligations.RequestsAreDroppedOrAnsweredInParts := by
  refine ⟨fun i src s hsource hrequest hs hup hsrc hroom => ?_, fun src payload s htakes hundecoded => ?_, cutParts_spec,
    fun r dst code tag reply src sent hbusy => ?_⟩
  · rcases hrequest with hencodes | ⟨payload, rfl, hundecoded⟩
    · rw [← service_isSome, Option.isSome_iff_exists] at hencodes
      obtain ⟨v, hv⟩ := hencodes
      rw [requestSource_service hv] at hsource
      rw [responseParts_service hv] at hroom
      rw [exec_service hv, Service.run_dropped hup (Option.some.inj hsource ▸ hsrc) hroom hs]
      rfl
    · refine congrArg Host.Outcome.next ((serveRequest_undecoded hundecoded s).trans ?_)
      exact Service.run_dropped (v := undecodedService src payload) hup hsrc hroom hs
  · refine congrArg Host.Outcome.next ((serveRequest_undecoded hundecoded s).trans ?_)
    exact takeRequest_answered src _ _ 1 _ s s _ htakes rfl rfl
  · have h := respond_busy (r := { r with partialBytes := 0 }) (dst := dst) (code := code) (tag := tag)
      (st := reply.status) (by rw [hbusy]; exact Transmitter.noConfusion) 0 reply.parts r.management
    refine h.trans ?_
    simp only [Nat.zero_add]

end Sys2Proof.Machine

/-! ## Settled: the requests on the line -/

namespace Sys2Proof.Machine

/-! ### How a taken request ends -/

/-- The state after a request's owner, its response placed and the reservation of the state before ended (R176). -/
def State.replied (u s : State) (src code tag : Byte) (r : Reply) : State :=
  { u with rif := { u.rif.respond src code tag r.status 1 r.parts with reserved := s.rif.reserved } }

/-- A request that is taken and leaves nothing waiting. -/
theorem exec_replied {i : Instr} {v : Service} (hv : service i = some v) {s u : State} {r : Reply}
    (htakes : s.Takes v.src (v.parts s)) (howner : v.owner (s.serving (v.parts s)) = (u, r)) (hu : v.settles = true → u.Settled) :
    exec i s = .next (u.replied s v.src v.code v.tag r) := by
  have htaken := takeRequest_taken v.src v.code v.tag (v.parts s) v.owner s htakes
  rw [howner] at htaken
  rw [exec_service hv, Service.run_of_settled htaken hu]
  rfl

/-- A request whose owner leaves the wire alone. -/
theorem exec_answered {i : Instr} {v : Service} (hv : service i = some v) {s t : State} {r : Reply}
    (htakes : s.Takes v.src (v.parts s))
    (howner : v.owner (s.serving (v.parts s)) = ({ t with rif := (s.serving (v.parts s)).rif }, r)) (ht : t.rif = s.rif)
    (hsettled : v.settles = true → t.Settled) : exec i s = .next (t.answered v.src v.code v.tag r) := by
  rw [exec_service hv, Service.run_of_settled (takeRequest_answered _ _ _ _ _ s t r htakes howner ht) hsettled]

/-- What a reply of one part does to a busy wire. -/
theorem State.replied_rif {u s : State} {src code tag : Byte} {status : Status} {p : List Byte}
    (hbusy : u.rif.tx ≠ .idle) :
    (u.replied s src code tag ⟨status, [p]⟩).rif =
      { u.rif with
        management := u.rif.management ++ [.response ⟨src, code, tag, status, 1, true, p⟩]
        reserved := s.rif.reserved } := by
  unfold State.replied
  dsimp only
  rw [Rif.respond, Rif.pushManagement_busy _ _ hbusy]
  rfl

/-- A notice leaves the outbound queue of a busy wire, and joins the management queue where it has a place. -/
theorem State.notice_rif {n : Notice} {s : State} (hbusy : s.rif.tx ≠ .idle) :
    (s.notice n).rif.tx = s.rif.tx ∧ (s.notice n).rif.outbound = s.rif.outbound ∧
      (0 < s.rif.freePlaces →
        (s.notice n).rif.management = s.rif.management ++ [.notice s.settings.noticeAddress n]) := by
  rcases s.notice_cases n with ⟨-, h⟩ | ⟨hfull, h⟩
  · rw [h]
    dsimp only
    rw [Rif.pushManagement_busy _ _ hbusy]
    exact ⟨rfl, rfl, fun _ => rfl⟩
  · rw [h]
    exact ⟨rfl, rfl, fun hroom => absurd hfull (Nat.ne_of_gt hroom)⟩

theorem State.notice_outbound_le (n : Notice) (s : State) :
    (s.notice n).rif.outbound.length ≤ s.rif.outbound.length := by
  rcases s.notice_cases n with ⟨-, h⟩ | ⟨-, h⟩
  · rw [h]
    exact (Rif.pushManagement_length _ _).2
  · rw [h]
    exact Nat.le_refl _

theorem bigEndian_one (n : Nat) : bigEndian 1 n = [BitVec.ofNat 8 n] := by
  rw [bigEndian, bigEndian, Nat.pow_zero, Nat.div_one]

theorem State.serving_freePlaces {s : State} {n k : Nat} (h : n + k ≤ s.rif.freePlaces) : k ≤ (s.serving n).rif.freePlaces := by
  have hmore : n + k ≤ 16 - (s.rif.management.length + s.rif.reserved) := h
  show k ≤ 16 - (s.rif.management.length + (s.rif.reserved + n))
  omega

/-! ### LINE_HALT -/

theorem State.nodeCount_raw (s : State) : s.nodeCount s.pos.raw = s.pos.lastCount % 65536 := by
  rw [State.nodeCount, sub_self, zero_add]
  exact Int.toNat_natCast (s.pos.lastCount % 65536)

/-- The safe-state frames as R90 gives them: the channels that are driven and do not hold, ascending. -/
theorem State.safeFrames_eq (s : State) (l : List (Fin 24)) :
    s.safeFrames l = (l.filter fun c => (s.channel c).source != .disabled && (s.channel c).safeState != .hold).map fun c =>
      OutFrame.output (s.channel c).node (s.channel c).point ((s.channel c).safeState == .on) true c
        (s.pos.lastCount % 65536) 0 := by
  have hone (c : Fin 24) : (s.safeLevel c).map (s.immediate c) =
      if ((s.channel c).source != .disabled && (s.channel c).safeState != .hold) = true then
        some (OutFrame.output (s.channel c).node (s.channel c).point ((s.channel c).safeState == .on) true c
          (s.pos.lastCount % 65536) 0)
      else none := by
    unfold State.safeLevel State.immediate
    rw [State.nodeCount_raw]
    by_cases hsource : (s.channel c).source = .disabled
    · rw [if_pos hsource, hsource]
      rfl
    · rw [if_neg hsource, bne_iff_ne.mpr hsource]
      cases (s.channel c).safeState <;> rfl
  unfold State.safeFrames
  rw [← List.filterMap_eq_map, ← List.filterMap_eq_filter, List.filterMap_filterMap]
  refine List.filterMap_congr fun c _ => (hone c).trans ?_
  simp only [Option.guard]
  split <;> rfl

/-- Settles O41: the halt is `State.halt_eq`, seen by the state behind the reservation. -/
theorem lineHaltEntersSafe : Obligations.LineHaltEntersSafe := by
  intro src tag s htakes hs run driven
  have hservice : service (.lineHalt src tag) = some ⟨src, 15, tag, fun _ => 1, lineHaltOwner, true⟩ := rfl
  refine ⟨fun hsafe => ?_, fun hsafe => ?_⟩
  · refine exec_answered hservice htakes ?_ rfl fun _ => hs
    have hhalt : (s.serving 1).halt .request = s.serving 1 := State.halt_safe _ _ hsafe
    show ((s.serving 1).halt .request, Reply.one .accepted (lineResults ((s.serving 1).halt .request))) = _
    rw [hhalt, lineResults, show (s.serving 1).sup.line = .safe from hsafe]
    rfl
  · have hsafe' : (s.serving 1).sup.line ≠ .safe := hsafe
    have hframe := State.halt_frame (r := .request) hsafe'
    have heq := State.halt_eq .request (s.serving 1) hsafe'
    have hline := State.halt_line .request (s.serving 1)
    have hsettled : ((s.serving 1).halt .request).Settled := (State.halt_deferred _ _).trans hs
    have hchannel (c : Fin 24) : ((s.serving 1).halt .request).camChannel c =
        s.safeChanged c (s.camChannel c).cleared := by
      rw [hframe]
      refine (State.safeCam_get _ _ c).trans ?_
      exact congrArg _ (State.camClear_camChannel s c)
    generalize hu : (s.serving 1).halt .request = u at *
    have howner : lineHaltOwner (s.serving 1) = (u, ⟨.accepted, [[3]]⟩) := by
      show ((s.serving 1).halt .request, Reply.one .accepted (lineResults ((s.serving 1).halt .request))) = _
      rw [hu, lineResults, hline]
      rfl
    refine ⟨_, exec_replied hservice htakes howner fun _ => hsettled, ?_, fun c => ?_, fun hbusy => ?_, fun hbusy hroom => ?_⟩
    · rw [hframe]
      rfl
    · show (u.camChannel c).schedule = [] ∧ (u.camChannel c).activeOff = none ∧ (u.camChannel c).merges = 0 ∧ _
      rw [show (u.replied s src 15 tag ⟨.accepted, [[3]]⟩).camChannel c = u.camChannel c from rfl, hchannel c]
      refine ⟨rfl, rfl, rfl, fun hdriven hstate => ?_, fun hdriven hstate => ?_, fun hhold => ?_⟩
      · simp only [State.safeChanged, State.safeLevel, if_neg hdriven, hstate]
        rfl
      · simp only [State.safeChanged, State.safeLevel, if_neg hdriven, hstate]
        rfl
      · have hnone : s.safeLevel c = none := by
          unfold State.safeLevel
          split
          · rfl
          · next hsource => rw [hhold.resolve_left (not_not.mpr hsource)]
        simp only [State.safeChanged, hnone]
        rfl
    all_goals
      have hpushed : ((s.serving 1).halted .request).rif =
          { s.rif with
            partialBytes := 0, reserved := s.rif.reserved + 1, overrun := false, outbound := [] ++ (s.serving 1).haltFrames } :=
        Rif.pushAll_busy _ _ hbusy
      have hhalted : ((s.serving 1).halted .request).rif.tx ≠ .idle := by rw [hpushed]; exact hbusy
      obtain ⟨htx, hout, hmgmt⟩ := State.notice_rif (n := .lineState .safe s.sup.line .request s.pos.state s.pitch) hhalted
      have hnoticed : u = ((s.serving 1).halted .request).notice
        (.lineState .safe s.sup.line .request s.pos.state s.pitch) := heq
      rw [← hnoticed] at htx hout hmgmt
      rw [State.replied_rif (by rw [htx]; exact hhalted)]
      dsimp only
    · rw [hout, hpushed]
      exact congrArg (_ :: ·) (s.safeFrames_eq channelIds)
    · rw [hmgmt, hpushed, List.append_assoc]
      · rfl
      · rw [Rif.freePlaces, hpushed]
        exact State.serving_freePlaces (n := 1) (k := 1) hroom

/-! ### LINE_STOP -/

theorem State.stop_empty {r : StopReason} {s : State} (h : s.sup.line = .run) (hq : s.trq.queue = []) :
    s.stop r = ((s.setLine .runout r).lineNotice .run).completeRunout := by
  have hqueue : ((s.setLine .runout r).lineNotice .run).trq.queue.isEmpty = true := by
    rw [State.lineNotice_trq]
    exact List.isEmpty_iff.mpr hq
  unfold State.stop
  rw [if_pos h]
  exact if_pos hqueue

/-- Settles O40: a stop outside RUN is absorbed; in RUN it is `State.stop_frame`, and with an empty queue the run-out
completes by `State.completeRunout_eq`. -/
theorem lineStopRunsOut : Obligations.LineStopRunsOut := by
  intro src tag s htakes hs run
  have hservice : service (.lineStop src tag) = some ⟨src, 14, tag, fun _ => 1, lineStopOwner, true⟩ := rfl
  have howner (u : State) (hu : (s.serving 1).stop .request = u) :
      lineStopOwner (s.serving 1) = (u, ⟨.accepted, [[BitVec.ofNat 8 u.sup.line.code]]⟩) := by
    show ((s.serving 1).stop .request, Reply.one .accepted (lineResults ((s.serving 1).stop .request))) = _
    rw [hu, lineResults, bigEndian_one]
    rfl
  refine ⟨fun hline => ?_, fun hrun hq => ?_, fun hrun hq hroom => ?_⟩
  · exact exec_answered hservice htakes (howner _ (State.stop_absorbed _ (s.serving 1) hline)) rfl fun _ => hs
  · have hstop := howner _ (State.stop_frame (r := .request) (s := s.serving 1) hrun hq)
    have hframe := State.notice_eq (.lineState .runout .run .request s.pos.state s.pitch)
      ((s.serving 1).setLine .runout .request)
    have hwire := State.notice_rif (n := .lineState .runout .run .request s.pos.state s.pitch)
      (s := (s.serving 1).setLine .runout .request)
    rw [State.lineNotice_sup_line] at hstop
    change lineStopOwner (s.serving 1) =
      (((s.serving 1).setLine .runout .request).notice (.lineState .runout .run .request s.pos.state s.pitch),
        ⟨.accepted, [[2]]⟩) at hstop
    generalize ((s.serving 1).setLine .runout .request).notice (.lineState .runout .run .request s.pos.state s.pitch) = u
      at hstop hframe hwire
    have hsettled : u.Settled := by rw [hframe]; exact hs
    refine ⟨_, exec_replied hservice htakes hstop fun _ => hsettled, ?_, fun hbusy => ?_⟩
    · rw [hframe]
      rfl
    · obtain ⟨htx, hout, hmgmt⟩ := hwire hbusy
      rw [State.replied_rif (by rw [htx]; exact hbusy)]
      refine ⟨hout, fun hroom => ?_⟩
      dsimp only
      rw [hmgmt (State.serving_freePlaces (n := 1) (k := 1) hroom), List.append_assoc]
      rfl
  · have hstop := State.stop_empty (r := .request) (s := s.serving 1) hrun hq
    have hfirst := State.notice_eq (.lineState .runout .run .request s.pos.state s.pitch)
      ((s.serving 1).setLine .runout .request)
    have hwire := State.notice_rif (n := .lineState .runout .run .request s.pos.state s.pitch)
      (s := (s.serving 1).setLine .runout .request)
    have hlength : (((s.serving 1).setLine .runout .request).lineNotice .run).rif.outbound.length ≤ 39 :=
      (State.notice_outbound_le _ _).trans hroom
    change (s.serving 1).stop .request = (((s.serving 1).setLine .runout .request).notice
      (.lineState .runout .run .request s.pos.state s.pitch)).completeRunout at hstop
    change (((s.serving 1).setLine .runout .request).notice
      (.lineState .runout .run .request s.pos.state s.pitch)).rif.outbound.length ≤ 39 at hlength
    generalize ((s.serving 1).setLine .runout .request).notice (.lineState .runout .run .request s.pos.state s.pitch) = v
      at hstop hfirst hwire hlength
    obtain ⟨counters, cam, hcomplete, hcam⟩ := State.completeRunout_eq v hlength
    have hoffs : v.lastOffs channelIds = s.lastOffs channelIds := by rw [hfirst]; rfl
    have hdrive : v.settings = s.settings := by rw [hfirst]; rfl
    have hcamChannel (c : Fin 24) : v.camChannel c = s.camChannel c := by rw [hfirst]; rfl
    rw [hoffs, hdrive] at hcomplete
    generalize hframes : s.lastOffs channelIds ++ [.drive s.settings.driveNode .stop] = frames at hcomplete
    generalize hw : ({ v with
      sup := { v.sup with line := .idle, counters := counters }
      cam := cam
      reg := { v.reg with lock := .off, matchCount := 0, missCount := 0 }
      rif := v.rif.pushAll frames } : State) = w at hcomplete
    have hlast := State.notice_eq (.lineState w.sup.line v.sup.line w.sup.reason w.pos.state w.pitch) w
    have hlastRif := State.notice_rif (n := .lineState w.sup.line v.sup.line w.sup.reason w.pos.state w.pitch) (s := w)
    rw [hcomplete] at hstop
    change (s.serving 1).stop .request =
      w.notice (.lineState w.sup.line v.sup.line w.sup.reason w.pos.state w.pitch) at hstop
    generalize w.notice (.lineState w.sup.line v.sup.line w.sup.reason w.pos.state w.pitch) = u at hstop hlast hlastRif
    have hsettled : u.Settled := by rw [hlast, ← hw, hfirst]; exact hs
    refine ⟨_, exec_replied hservice htakes (howner u hstop) fun _ => hsettled, ?_, fun c => ?_, fun hbusy => ?_⟩
    · rw [hlast, ← hw, hfirst]
      rfl
    · show u.camChannel c = (s.camChannel c).ranOut
      rw [hlast, ← hw, ← hcamChannel c]
      exact hcam c
    · obtain ⟨htx, hout, -⟩ := hwire hbusy
      have hv : v.rif.tx ≠ .idle := by rw [htx]; exact hbusy
      have hpushed := Rif.pushAll_busy v.rif frames hv
      have hrif : w.rif = { v.rif with outbound := v.rif.outbound ++ frames } := by rw [← hw]; exact hpushed
      obtain ⟨htx', hout', -⟩ := hlastRif (by rw [hrif]; exact hv)
      have hu : u.rif.tx ≠ .idle := by rw [htx', hrif]; exact hv
      rw [State.replied_rif hu]
      dsimp only
      rw [hout', hrif]
      dsimp only
      rw [hout, ← hframes, ← List.append_assoc]
      rfl

/-! ### LINE_START -/

/-- REG after a start with a format and its size class (R51). -/
def Reg.started (r : Reg) (f : Format) (runClass : Nat) : Reg :=
  { r with
    trim := if r.trimClass = some runClass then r.trim else 0
    inForce := if r.trimClass = some runClass then r.inForce else some f.regSettings
    trimClass := some runClass
    matchCount := 0
    missCount := 0
    lock := if 0 < r.holdoff then .holdoff else .search }

theorem State.regStart_room (f : Format) (runClass : Nat) {s : State} (h : s.rif.outbound.length < 64) :
    s.regStart f runClass =
      { s with
        reg := s.reg.started f runClass
        rif := s.rif.pushOutbound (.trim s.settings.feedNode (s.reg.started f runClass).trim) } := by
  have hplaced (r : Reg) : ({ s with reg := r } : State).placeTrim =
      { s with reg := r, rif := s.rif.pushOutbound (.trim s.settings.feedNode r.trim) } :=
    State.placeOutbound_room _ _ h
  unfold State.regStart Reg.started
  dsimp only
  by_cases hsame : s.reg.trimClass = some runClass
  · have hkept := hplaced s.reg
    simp only [if_pos hsame]
    change s.placeTrim = _ at hkept
    rw [hkept, ← hsame]
  · simp only [if_neg hsame]
    rw [hplaced]

/-- The start with room for its two frames: TRIM ahead of DRIVE RUN, then the notice (R146). -/
theorem State.start_room (l : Lot) {s : State} (h : s.rif.outbound.length ≤ 62) :
    s.start l = State.lineNotice .idle
      { s with
        sup := { s.sup with line := .run, reason := .none }
        lot := { s.lot with runClass := some (s.format l.format).sizeClass }
        reg := s.reg.started (s.format l.format) (s.format l.format).sizeClass
        rif := s.rif.pushAll [.trim s.settings.feedNode
          (s.reg.started (s.format l.format) (s.format l.format).sizeClass).trim, .drive s.settings.driveNode .run] } := by
  refine (congrArg (fun t => State.lineNotice .idle (State.placeDrive .run t)) (State.regStart_room (s.format l.format)
    (s.format l.format).sizeClass (s := { s with
      sup := { s.sup with line := .run, reason := .none }
      lot := { s.lot with runClass := some (s.format l.format).sizeClass } })
    (show s.rif.outbound.length < 64 by omega))).trans ?_
  refine congrArg (State.lineNotice .idle) (State.placeOutbound_room _ _ ?_)
  have hlength := (Rif.pushOutbound_length s.rif (.trim s.settings.feedNode
    (s.reg.started (s.format l.format) (s.format l.format).sizeClass).trim)).1
  exact hlength.trans_lt (by omega)

theorem State.startingLot_of {l : Lot} {s : State}
    (h : s.cuttingLot = some l ∨ (s.cuttingLot = none ∧ s.headQueued = some l)) : s.startingLot = some l := by
  rcases h with hcutting | ⟨hnone, hqueued⟩
  · rw [State.startingLot, hcutting]
  · rw [State.startingLot, hnone, hqueued]

theorem State.startingLot_none {s : State} (h : ∀ l ∈ s.lot.table, l.state = .closed) : s.startingLot = none := by
  cases hl : s.startingLot with
  | none => rfl
  | some l =>
    obtain ⟨hmem, hopen⟩ := State.startingLot_mem hl
    exact absurd (h l hmem) hopen

theorem startResults_eq (s : State) (test : Nat) : startResults s test =
    [BitVec.ofNat 8 s.sup.line.code, BitVec.ofNat 8 (s.lot.runClass.getD 0), BitVec.ofNat 8 test] := by
  rw [startResults, bigEndian_one, bigEndian_one, bigEndian_one]
  rfl

theorem lineStartOwner_moving {s : State} (h : s.sup.line ≠ .idle) :
    lineStartOwner s = (s, .one .badState (startResults s 1)) := if_pos h

theorem lineStartOwner_unknown {s : State} (h : s.sup.line = .idle) (hunknown : s.pos.state = .unknown) :
    lineStartOwner s = (s, .one .badState (startResults s 2)) := by
  have hposition : s.pos.state ≠ .known := fun h => PosState.noConfusion (hunknown.symm.trans h)
  rw [lineStartOwner, if_neg (not_not.mpr h), if_pos hposition]

theorem lineStartOwner_lotless {s : State} (h : s.sup.line = .idle) (hknown : s.pos.state = .known)
    (hnone : s.startingLot = none) : lineStartOwner s = (s, .one .badState (startResults s 3)) := by
  rw [lineStartOwner, if_neg (not_not.mpr h), if_neg (not_not.mpr hknown), hnone]

theorem lineStartOwner_starts {l : Lot} {s : State} (h : s.sup.line = .idle) (hknown : s.pos.state = .known)
    (hl : s.startingLot = some l) : lineStartOwner s = (s.start l, .one .accepted (startResults (s.start l) 0)) := by
  rw [lineStartOwner, if_neg (not_not.mpr h), if_neg (not_not.mpr hknown), hl]

/-- Settles O39: the tests in their order, and the start is `State.start_room`. -/
theorem lineStartByTheTests : Obligations.LineStartByTheTests := by
  intro src tag s htakes hs run refused
  have hservice : service (.lineStart src tag) = some ⟨src, 13, tag, fun _ => 1, lineStartOwner, true⟩ := rfl
  have hrefused (test : Nat) (h : lineStartOwner (s.serving 1) =
      (s.serving 1, .one .badState (startResults (s.serving 1) test))) : run = refused (BitVec.ofNat 8 test) := by
    rw [startResults_eq] at h
    exact exec_answered hservice htakes h rfl fun _ => hs
  refine ⟨fun hline => hrefused 1 (lineStartOwner_moving hline),
    fun hline hunknown => hrefused 2 (lineStartOwner_unknown hline hunknown),
    fun hline hknown hclosed => hrefused 3 (lineStartOwner_lotless hline hknown (State.startingLot_none hclosed)), ?_⟩
  intro l hline hknown hroom hl f same
  have hstart := lineStartOwner_starts (s := s.serving 1) hline hknown (State.startingLot_of hl)
  rw [State.start_room l (s := s.serving 1) hroom, startResults_eq, State.lineNotice_sup_line, State.lineNotice_lot] at hstart
  change lineStartOwner (s.serving 1) = (State.notice (.lineState .run .idle .none s.pos.state s.pitch)
      { s.serving 1 with
        sup := { s.sup with line := .run, reason := .none }
        lot := { s.lot with runClass := some f.sizeClass }
        reg := s.reg.started f f.sizeClass
        rif := (s.serving 1).rif.pushAll [.trim s.settings.feedNode (s.reg.started f f.sizeClass).trim,
          .drive s.settings.driveNode .run] },
    ⟨.accepted, [[1, BitVec.ofNat 8 f.sizeClass, 0]]⟩) at hstart
  generalize hw : ({ s.serving 1 with
    sup := { s.sup with line := .run, reason := .none }
    lot := { s.lot with runClass := some f.sizeClass }
    reg := s.reg.started f f.sizeClass
    rif := (s.serving 1).rif.pushAll [.trim s.settings.feedNode (s.reg.started f f.sizeClass).trim,
      .drive s.settings.driveNode .run] } : State) = w at hstart
  have hframe := State.notice_eq (.lineState .run .idle .none s.pos.state s.pitch) w
  have hwire := State.notice_rif (n := .lineState .run .idle .none s.pos.state s.pitch) (s := w)
  generalize w.notice (.lineState .run .idle .none s.pos.state s.pitch) = u at hstart hframe hwire
  have hreg : u.reg = s.reg.started f f.sizeClass := by rw [hframe, ← hw]
  have hsettled : u.Settled := by rw [hframe, ← hw]; exact hs
  have hpushed (hbusy : s.rif.tx ≠ .idle) : w.rif = { s.rif with
      partialBytes := 0, reserved := s.rif.reserved + 1
      outbound := s.rif.outbound ++ [.trim s.settings.feedNode (s.reg.started f f.sizeClass).trim,
        .drive s.settings.driveNode .run] } := by
    rw [← hw]
    exact Rif.pushAll_busy _ _ hbusy
  have hreplied (hbusy : s.rif.tx ≠ .idle) := State.replied_rif (u := u) (s := s) (src := src) (code := 13) (tag := tag)
    (status := .accepted) (p := [1, BitVec.ofNat 8 f.sizeClass, 0]) (by
      rw [(hwire (by rw [hpushed hbusy]; exact hbusy)).1, hpushed hbusy]
      exact hbusy)
  refine ⟨_, exec_replied hservice htakes hstart fun _ => hsettled, ?_, ?_, fun hsame => ?_, fun hother => ?_, ?_, fun hbusy => ?_,
    fun hbusy hplaces => ?_⟩
  · rw [hframe, ← hw]
    rfl
  · rw [hframe, ← hw]
    rfl
  · show u.reg.trim = _ ∧ u.reg.inForce = _
    rw [hreg]
    exact ⟨if_pos hsame, if_pos hsame⟩
  · show u.reg.trim = _ ∧ u.reg.inForce = _
    rw [hreg]
    exact ⟨if_neg hother, if_neg hother⟩
  · show u.reg = { s.reg with
      trim := u.reg.trim, inForce := u.reg.inForce, trimClass := some f.sizeClass, matchCount := 0, missCount := 0
      lock := if s.reg.holdoff = 0 then .search else .holdoff }
    have hlock : (if 0 < s.reg.holdoff then .holdoff else .search : LockState) =
        if s.reg.holdoff = 0 then .search else .holdoff := by
      rcases Nat.eq_zero_or_pos s.reg.holdoff with hzero | hpos
      · rw [if_pos hzero, if_neg (by omega)]
      · rw [if_pos hpos, if_neg hpos.ne']
    rw [hreg, Reg.started, hlock]
  · obtain ⟨-, hout, -⟩ := hwire (by rw [hpushed hbusy]; exact hbusy)
    rw [hreplied hbusy]
    dsimp only
    rw [hout, hpushed hbusy]
    show _ = _ ++ [OutFrame.trim _ u.reg.trim, _]
    rw [hreg]
  · obtain ⟨-, -, hmgmt⟩ := hwire (by rw [hpushed hbusy]; exact hbusy)
    have hplace : 0 < w.rif.freePlaces := by
      rw [hpushed hbusy]
      exact State.serving_freePlaces (n := 1) (k := 1) hplaces
    rw [hreplied hbusy]
    dsimp only
    rw [hmgmt hplace, hpushed hbusy, List.append_assoc, ← hw, hknown]
    rfl

/-! ### LINE_RESET -/

theorem State.chkReset_chkInput (s : State) (i : Fin 16) :
    s.chkReset.chkInput i = ⟨(s.chkInput i).pulse, [], none, 0⟩ := by
  have hget (v : Vector ChkInput 16) := foldl_updateAt_get
    (fun _ (x : ChkInput) => { x with pending := [], lastClosed := none, consecutive := 0 })
    inputIds (List.nodup_finRange 16) v i
  refine (hget s.chk).trans ?_
  rw [if_pos (inputIds_mem i)]
  rfl

theorem lineResetOwner_running {s : State} (h : s.running = true) : lineResetOwner s = (s, .plain .badState) := if_pos h

/-- LINE_RESET with room for its frame (R153). -/
theorem lineResetOwner_room {s : State} (h : s.running = false) (hroom : s.rif.outbound.length < 64) :
    lineResetOwner s = (State.notice (.lineState .idle s.sup.line .none s.pos.state s.pitch)
      { s.resetBlocks with
        sup := { s.sup with line := .idle, reason := .none }
        rif := s.rif.pushOutbound (.trim s.settings.feedNode 0) }, .plain .accepted) := by
  have hplaced := State.placeOutbound_room (.trim s.settings.feedNode 0) (s.resetBlocks.setLine .idle .none) hroom
  rw [lineResetOwner, if_neg (by rw [h]; exact Bool.false_ne_true)]
  exact congrArg (fun t => (State.lineNotice s.sup.line t, Reply.plain .accepted)) hplaced

/-- Settles O43: the blocks emptied, TRIM 0 and the notice placed. -/
theorem lineResetEmptiesTheBlocks : Obligations.LineResetEmptiesTheBlocks := by
  intro src tag s htakes hs run
  have hservice : service (.lineReset src tag) = some ⟨src, 17, tag, fun _ => 1, lineResetOwner, true⟩ := rfl
  refine ⟨fun hrun => ?_, fun hrun hroom => ?_⟩
  · exact exec_answered hservice htakes (lineResetOwner_running (s := s.serving 1) hrun) rfl fun _ => hs
  · have hreset := lineResetOwner_room (s := s.serving 1) hrun hroom
    change lineResetOwner (s.serving 1) = (State.notice (.lineState .idle s.sup.line .none s.pos.state s.pitch)
      { (s.serving 1).resetBlocks with
        sup := { s.sup with line := .idle, reason := .none }
        rif := (s.serving 1).rif.pushOutbound (.trim s.settings.feedNode 0) }, _) at hreset
    generalize hw : ({ (s.serving 1).resetBlocks with
      sup := { s.sup with line := .idle, reason := .none }
      rif := (s.serving 1).rif.pushOutbound (.trim s.settings.feedNode 0) } : State) = w at hreset
    have hframe := State.notice_eq (.lineState .idle s.sup.line .none s.pos.state s.pitch) w
    have hwire := State.notice_rif (n := .lineState .idle s.sup.line .none s.pos.state s.pitch) (s := w)
    have hflag : (w.notice (.lineState .idle s.sup.line .none s.pos.state s.pitch)).rif.linkDownFlag =
        s.rif.linkDownFlag := by
      rw [State.notice_rif_linkDownFlag, ← hw]
      exact Rif.pushOutbound_linkDownFlag _ _
    have hcounter (c : Fin 38) (hc : c ≠ ctrNoticesDropped) :
        (w.notice (.lineState .idle s.sup.line .none s.pos.state s.pitch)).sup.counters.get c = s.sup.counters.get c := by
      rw [State.notice_counter _ _ hc, ← hw]
    generalize w.notice (.lineState .idle s.sup.line .none s.pos.state s.pitch) = u at hreset hframe hwire hflag hcounter
    have hsettled : u.Settled := by rw [hframe, ← hw]; exact hs
    refine ⟨_, exec_replied hservice htakes hreset fun _ => hsettled, ?_, ?_, ?_, hcounter, ?_, ?_, ?_, ?_, fun c => ?_, fun i => ?_,
      ?_, ?_, fun hbusy => ?_⟩
    · rw [hframe, ← hw]
      rfl
    · rw [hframe, ← hw]
      rfl
    · rw [hframe, ← hw]
      rfl
    · rw [hframe, ← hw]
      rfl
    · rw [hframe, ← hw]
      rfl
    · rw [hframe, ← hw]
      rfl
    · rw [hframe, ← hw]
      rfl
    · show u.camChannel c = _
      rw [hframe, ← hw]
      exact State.camClear_camChannel s c
    · show u.chkInput i = _
      rw [hframe, ← hw]
      exact State.chkReset_chkInput s i
    · show u.reg = ⟨.off, 0, 0, 0, 0, 0, none, none, s.reg.lost, [], u.reg.openCandidate⟩
      rw [hframe, ← hw]
      rfl
    · refine Eq.trans ?_ hflag
      exact (Rif.respond_keeps u.rif src 17 tag _ 1 _).2.2.1
    · have hpushed : w.rif = { s.rif with
          partialBytes := 0, reserved := s.rif.reserved + 1
          outbound := s.rif.outbound ++ [.trim s.settings.feedNode 0] } := by
        rw [← hw]
        exact Rif.pushOutbound_busy _ _ hbusy
      have hw' : w.rif.tx ≠ .idle := by rw [hpushed]; exact hbusy
      obtain ⟨htx, hout, hmgmt⟩ := hwire hw'
      rw [Reply.plain, State.replied_rif (by rw [htx]; exact hw')]
      dsimp only
      refine ⟨by rw [hout, hpushed], fun hplaces => ?_⟩
      have hplace : 0 < w.rif.freePlaces := by
        rw [hpushed]
        exact State.serving_freePlaces (n := 1) (k := 1) hplaces
      rw [hmgmt hplace, hpushed, List.append_assoc, ← hw]
      rfl

/-! ### MANUAL_SET -/

theorem Rif.pushOutbound_reserve (r : Rif) (n : Nat) (f : OutFrame) :
    ({ r with reserved := n } : Rif).pushOutbound f = { r.pushOutbound f with reserved := n } :=
  Rif.arbitrate_reserve { r with outbound := r.outbound ++ [f] } n

theorem index?_of_lt {n k : Nat} (c : Fin n) (h : k = c.val) : index? n k = some c := by
  subst h
  exact dif_pos c.isLt

theorem index?_of_le {n k : Nat} (h : n ≤ k) : index? n k = none := dif_neg (Nat.not_lt.mpr h)

theorem yesNo?_one {n : Nat} (h : n ≤ 1) : yesNo? n = some (n == 1) := by
  interval_cases n <;> rfl

theorem yesNo?_none {n : Nat} (h : 1 < n) : yesNo? n = none := by
  obtain ⟨m, rfl⟩ := Nat.exists_eq_add_of_lt h
  rw [Nat.add_comm 1 m]
  rfl

theorem manualSetOwner_moving {channel level : Byte} {s : State} (h : s.sup.line ≠ .idle) :
    manualSetOwner channel level s = (s, .plain .badState) := if_pos h

theorem manualSetOwner_unknown {channel level : Byte} {s : State} (h : s.sup.line = .idle) (hc : 24 ≤ channel.toNat) :
    manualSetOwner channel level s = (s, .plain .unknownId) := by
  rw [manualSetOwner, if_neg (not_not.mpr h), index?_of_le hc]

theorem manualSetOwner_refused {channel level : Byte} {c : Fin 24} {s : State} (h : s.sup.line = .idle)
    (hc : channel.toNat = c.val) (hbad : 1 < level.toNat ∨ (s.channel c).source ≠ .manual) :
    manualSetOwner channel level s = (s, .plain .badValue) := by
  rw [manualSetOwner, if_neg (not_not.mpr h), index?_of_lt c hc]
  dsimp only
  by_cases hlevel : 1 < level.toNat
  · rw [manualLevel?, yesNo?_none hlevel]
  · rw [manualLevel?, yesNo?_one (Nat.not_lt.mp hlevel)]
    exact if_pos (hbad.resolve_left hlevel)

theorem manualSetOwner_taken {channel level : Byte} {c : Fin 24} {s : State} (h : s.sup.line = .idle)
    (hc : channel.toNat = c.val) (hlevel : level.toNat ≤ 1) (hmanual : (s.channel c).source = .manual) :
    manualSetOwner channel level s = ((s.placeImmediate c (level.toNat == 1)).setCam c fun x =>
      { x with level := levelOf (level.toNat == 1) }, .plain .accepted) := by
  rw [manualSetOwner, if_neg (not_not.mpr h), index?_of_lt c hc]
  dsimp only
  rw [manualLevel?, yesNo?_one hlevel]
  exact if_neg (not_not.mpr hmanual)

/-- A request that places one frame is answered behind it. -/
theorem State.replied_pushed {s t : State} {f : OutFrame} {src code tag : Byte} {r : Reply} (n : Nat)
    (ht : t.rif = s.heard.rif.pushOutbound f) :
    State.replied { t with rif := (s.serving n).rif.pushOutbound f } s src code tag r = t.answered src code tag r := by
  have hserving : (s.serving n).rif.pushOutbound f = { t.rif with reserved := s.rif.reserved + n } := by
    rw [ht]
    exact Rif.pushOutbound_reserve s.heard.rif _ f
  have hpartial : t.rif.partialBytes = 0 := by
    rw [ht, Rif.pushOutbound_partialBytes]
    rfl
  have hreserved : t.rif.reserved = s.rif.reserved := by
    rw [ht, Rif.pushOutbound_reserved]
    rfl
  have hkeeps := (Rif.respond_keeps t.rif src code tag r.status 1 r.parts).2.2.2.2
  have hsame : ({ t.rif with partialBytes := 0 } : Rif) = t.rif := by rw [← hpartial]
  unfold State.replied State.answered Rif.answer
  dsimp only
  rw [hserving, Rif.respond_reserve, hsame]
  generalize t.rif.respond src code tag r.status 1 r.parts = q at hkeeps
  dsimp only
  rw [← hreserved, ← hkeeps]

/-- Settles O44: the tests in their order; the frame is placed with the level. -/
theorem manualSetByTheTests : Obligations.ManualSetByTheTests := by
  intro src tag channel level s htakes hs run answer
  have hservice : service (.manualSet src tag channel level) =
    some ⟨src, 18, tag, fun _ => 1, manualSetOwner channel level, true⟩ := rfl
  refine ⟨fun hline => ?_, fun hline hc => ?_, fun c hline hc => ⟨fun hbad => ?_, fun hlevel hmanual hroom => ?_⟩⟩
  · exact exec_answered hservice htakes (manualSetOwner_moving (s := s.serving 1) hline) rfl fun _ => hs
  · exact exec_answered hservice htakes (manualSetOwner_unknown (s := s.serving 1) hline hc) rfl fun _ => hs
  · exact exec_answered hservice htakes (manualSetOwner_refused (s := s.serving 1) hline hc hbad) rfl fun _ => hs
  · have htaken := manualSetOwner_taken (s := s.serving 1) hline hc hlevel hmanual
    rw [State.placeImmediate, State.placeOutbound_room _ (s.serving 1) hroom, State.nodeCount_raw] at htaken
    have hbit : (level == 1) = (level.toNat == 1) := by
      rw [Bool.eq_iff_iff, beq_iff_eq, beq_iff_eq, BitVec.toNat_eq]
      rfl
    refine ⟨_, (exec_replied hservice htakes htaken fun _ => hs).trans (congrArg Host.Outcome.next
      (State.replied_pushed (s := s) (t := { s with
        cam := updateAt s.cam c fun x => { x with level := levelOf (level.toNat == 1) }
        rif := s.heard.rif.pushOutbound (.output (s.channel c).node (s.channel c).point (level.toNat == 1) true c
          (s.pos.lastCount % 65536) 0) }) 1 rfl)), ?_, fun d hd => ?_, ?_⟩
    · refine (updateAt_get _ _ _ _).trans ((if_pos rfl).trans ?_)
      show { s.camChannel c with level := levelOf (level.toNat == 1) } = _
      rw [← hbit, levelOf]
      simp only [beq_iff_eq]
    · exact (updateAt_get _ _ _ _).trans (if_neg hd)
    · rw [hbit]

/-! ### LOT_ADD -/

theorem formatId?_of {b : Byte} {f : Fin 16} (h : b.toNat = f.val + 1) : formatId? b = some f := by
  rw [formatId?, if_neg (by omega)]
  exact index?_of_lt f (by omega)

theorem lotAddOwner_oddMakeUp {a : LotArgs} (s : State) (h : 1 < a.makeUp.toNat) :
    lotAddOwner a s = (s, .plain .badValue) := by
  rw [lotAddOwner, yesNo?_none h]

theorem lotAddOwner_unknown {a : LotArgs} (s : State) (h : a.makeUp.toNat ≤ 1)
    (hf : a.format.toNat = 0 ∨ 16 < a.format.toNat) : lotAddOwner a s = (s, .plain .unknownId) := by
  rw [lotAddOwner, yesNo?_one h, formatId?_unknown hf]

/-- LOT_ADD with a make-up code and a format: tests 2 to 5 and the new lot. -/
theorem lotAddOwner_known {a : LotArgs} {f : Fin 16} (s : State) (h : a.makeUp.toNat ≤ 1)
    (hf : a.format.toNat = f.val + 1) :
    lotAddOwner a s =
      if a.id.toNat = 0 ∨ a.target.toNat = 0 ∨ 1000000 < a.target.toNat ∨ a.batchSize.toNat = 0 ∨
          5000 < a.batchSize.toNat then (s, .plain .badValue)
      else if (s.findLot ⟨a.id.toNat, 0⟩).isSome then (s, .plain .badValue)
      else if (s.format f).state ≠ .valid then (s, .plain .badState)
      else if 8 ≤ s.lot.table.length then (s, .plain .full)
      else
        ({ s with lot := { s.lot with table := s.lot.table ++
            [Lot.create ⟨a.id.toNat, 0⟩ f a.target.toNat a.batchSize.toNat (a.makeUp.toNat == 1)] } },
          .one .accepted [BitVec.ofNat 8 s.lot.table.length, BitVec.ofNat 8 (s.lot.table.length + 1)]) := by
  rw [lotAddOwner, yesNo?_one h, formatId?_of hf]
  dsimp only
  rw [bigEndian_one, bigEndian_one, List.length_append]
  rfl

theorem State.findLot_isSome {k : LotKey} {s : State} : (s.findLot k).isSome = true ↔ ∃ l ∈ s.lot.table, l.key = k := by
  rw [State.findLot, List.find?_isSome]
  simp only [beq_iff_eq]

/-- Settles O37: the tests in their order; the new lot joins the table's tail. -/
theorem lotAddByTheTests : Obligations.LotAddByTheTests := by
  intro src tag a s htakes run answer inRange
  have hservice : service (.lotAdd src tag a) = some ⟨src, 10, tag, fun _ => 1, lotAddOwner a, false⟩ := rfl
  have hanswered {t : State} {r : Reply} (howner : lotAddOwner a (s.serving 1) = ({ t with rif := (s.serving 1).rif }, r))
      (ht : t.rif = s.rif) : run = answer t r := exec_answered hservice htakes howner ht Bool.noConfusion
  refine ⟨fun hodd => hanswered (lotAddOwner_oddMakeUp (s.serving 1) hodd) rfl,
    fun hmakeUp hf => hanswered (lotAddOwner_unknown (s.serving 1) hmakeUp hf) rfl, ?_⟩
  intro f hmakeUp hf taken
  have hknown := lotAddOwner_known (s.serving 1) hmakeUp hf
  have hranges : (a.id.toNat = 0 ∨ a.target.toNat = 0 ∨ 1000000 < a.target.toNat ∨ a.batchSize.toNat = 0 ∨
      5000 < a.batchSize.toNat) ↔ ¬inRange := by
    simp only [inRange]
    omega
  have hfound : ((s.serving 1).findLot ⟨a.id.toNat, 0⟩).isSome = true ↔ taken := State.findLot_isSome
  refine ⟨fun hbad => hanswered (hknown.trans ?_) rfl, fun hin hfree hstate => hanswered (hknown.trans ?_) rfl,
    fun hin hfree hstate hfull => hanswered (hknown.trans ?_) rfl, fun hin hfree hstate hroom => ?_⟩
  · by_cases hin : inRange
    · rw [if_neg fun h => hranges.mp h hin, if_pos (hfound.mpr (hbad.resolve_left (not_not.mpr hin)))]
      rfl
    · exact if_pos (hranges.mpr hin)
  · rw [if_neg fun h => hranges.mp h hin, if_neg fun h => hfree (hfound.mp h)]
    exact if_pos hstate
  · rw [if_neg fun h => hranges.mp h hin, if_neg fun h => hfree (hfound.mp h)]
    exact (if_neg (not_not.mpr hstate)).trans (if_pos hfull)
  · have hbit : (a.makeUp == 1) = (a.makeUp.toNat == 1) := by
      rw [Bool.eq_iff_iff, beq_iff_eq, beq_iff_eq, BitVec.toNat_eq]
      rfl
    rw [hbit]
    refine hanswered (hknown.trans ?_) rfl
    rw [if_neg fun h => hranges.mp h hin, if_neg fun h => hfree (hfound.mp h)]
    exact (if_neg (not_not.mpr hstate)).trans (if_neg (Nat.not_le.mpr hroom))

end Sys2Proof.Machine

/-! ## Settled: a lot's end, and LOT_CANCEL -/

namespace Sys2Proof.Machine

/-! ### A batch completed -/

/-- The record of a completed batch (R120). -/
theorem batchOf_eq (l : Lot) (unmarkedEnd : Bool) : batchOf l unmarkedEnd =
    ⟨l.key, l.completed + 1, l.delivered, l.contaminated, unmarkedEnd, decide (l.delivered < l.batchSize)⟩ := rfl

theorem State.completeBatch_room {k : LotKey} {l : Lot} {s : State} (unmarkedEnd : Bool) (h : s.findLot k = some l)
    (hroom : s.lot.boxes.length < 2) :
    s.completeBatch k unmarkedEnd = State.notice (.batchDone (batchOf l unmarkedEnd) true (s.lot.boxes.length + 1))
      { s with lot := { (s.writeLot k Lot.batchDone).lot with
        boxes := s.lot.boxes ++ [⟨batchOf l unmarkedEnd, s.settings.boxDeadline⟩] } } := by
  rw [State.completeBatch, h]
  refine (if_pos hroom).trans ?_
  dsimp only
  rw [List.length_append]
  rfl

theorem State.completeBatch_full {k : LotKey} {l : Lot} {s : State} (unmarkedEnd : Bool) (h : s.findLot k = some l)
    (hfull : 2 ≤ s.lot.boxes.length) :
    s.completeBatch k unmarkedEnd = State.notice (.batchDone (batchOf l unmarkedEnd) false s.lot.boxes.length)
      ((s.writeLot k Lot.batchDone).raise .boxOverflow .safe (.key k)) := by
  rw [State.completeBatch, h]
  exact if_neg (Nat.not_lt.mpr hfull)

/-! ### A lot dissolved -/

theorem makeUpKey_eq (k : LotKey) : makeUpKey k = ⟨k.id, min 15 (k.makeUp + 1)⟩ := by
  unfold makeUpKey
  congr 1
  split <;> omega

/-- Where a make-up lot is placed: behind the lots that are not QUEUED and those made earlier (R131, R140). -/
theorem placeMakeUp_at (new : Lot) : ∀ (ahead earlier behind : List Lot) (skip : Nat), (∀ x ∈ ahead, x.state ≠ .queued) →
    (∀ x ∈ earlier, x.state = .queued) → earlier.length ≤ skip → (behind ≠ [] → earlier.length = skip) →
    (∀ x ∈ behind.head?, x.state = .queued) →
    placeMakeUp skip new (ahead ++ earlier ++ behind) = ahead ++ earlier ++ new :: behind
  | a :: ahead, earlier, behind, skip, hahead, hearlier, hle, heq, hbehind => by
    have hrest := placeMakeUp_at new ahead earlier behind skip (fun x hx => hahead x (List.mem_cons_of_mem a hx)) hearlier hle
      heq hbehind
    exact (if_neg (hahead a List.mem_cons_self)).trans (congrArg (a :: ·) hrest)
  | [], e :: earlier, behind, 0, _, _, hle, _, _ => absurd hle (by simp)
  | [], e :: earlier, behind, n + 1, hahead, hearlier, hle, heq, hbehind => by
    have hrest := placeMakeUp_at new [] earlier behind n hahead (fun x hx => hearlier x (List.mem_cons_of_mem e hx))
      (Nat.le_of_succ_le_succ hle) (fun hne => Nat.succ.inj (heq hne)) hbehind
    exact (if_pos (hearlier e List.mem_cons_self)).trans (congrArg (e :: ·) hrest)
  | [], [], [], skip, _, _, _, _, _ => rfl
  | [], [], b :: behind, skip, _, _, _, heq, hbehind => by
    obtain rfl : 0 = skip := heq (List.cons_ne_nil _ _)
    exact if_pos (hbehind b rfl)

/-- The table after a lot's end (R139, R140). -/
def State.tableAfter (s : State) (l : Lot) (outcome : MakeUp) (skip : Nat) : List Lot :=
  let rest := s.lot.table.filter fun x => x.key != l.key
  let child := Lot.create (makeUpKey l.key) l.format (l.target - l.stacked) l.batchSize true
  if outcome = .made then placeMakeUp skip child rest else rest

/-- A lot that ends while the wire is busy and has a place. -/
theorem State.dissolveLot_told {l : Lot} {outcome : MakeUp} {s : State} (skip : Nat) (houtcome : s.makeUpOutcome l = outcome)
    (hbusy : s.rif.tx ≠ .idle) (hplace : 0 < s.rif.freePlaces) :
    s.dissolveLot l skip = ({ s with
      lot := { s.lot with table := s.tableAfter l outcome skip }
      rif := { s.rif with management := s.rif.management ++
        [.notice s.settings.noticeAddress (.lotDone (lotDoneOf l outcome))] } }, outcome == .made) := by
  have hnotice : s.notice (.lotDone (lotDoneOf l outcome)) = { s with rif := { s.rif with
      management := s.rif.management ++ [.notice s.settings.noticeAddress (.lotDone (lotDoneOf l outcome))] } } := by
    rw [State.notice, if_pos hplace, Rif.pushManagement_busy _ _ hbusy]
  unfold State.dissolveLot
  dsimp only
  rw [houtcome, hnotice]
  rfl

/-- Whether a make-up lot's key stands in the table beside the lot that ends (R140). -/
theorem makeUpKey_taken {front back : List Lot} {l : Lot} {k : LotKey} (hkeys : ∀ x ∈ front ++ back, x.key ≠ l.key) :
    ((front ++ l :: back).any fun x => x.key != l.key && x.key == k) = true ↔ ∃ x ∈ front ++ back, x.key = k := by
  rw [List.any_eq_true]
  constructor
  · rintro ⟨x, hx, htest⟩
    rw [Bool.and_eq_true, bne_iff_ne, beq_iff_eq] at htest
    refine ⟨x, ?_, htest.2⟩
    rcases List.mem_append.mp hx with hfront | hback
    · exact List.mem_append_left _ hfront
    · rcases List.mem_cons.mp hback with rfl | hback
      · exact absurd rfl htest.1
      · exact List.mem_append_right _ hback
  · rintro ⟨x, hx, hk⟩
    refine ⟨x, ?_, ?_⟩
    · rcases List.mem_append.mp hx with hfront | hback
      · exact List.mem_append_left _ hfront
      · exact List.mem_append_right _ (List.mem_cons_of_mem _ hback)
    · rw [Bool.and_eq_true, bne_iff_ne, beq_iff_eq]
      exact ⟨hkeys x hx, hk⟩

/-- Settles O53: a lot with a batch begun completes it, then ends as any other; the outcome's conditions in their order. -/
theorem lotEndMakesUpTheShortfall : Obligations.LotEndMakesUpTheShortfall := by
  intro made front back l s htable hkeys
  have hfound : s.findLot l.key = some l := State.findLot_middle htable hkeys
  refine ⟨fun hlast => ?_, ?_⟩
  · have hdone := State.completeBatch_found hfound true
    rw [State.endLot_batch hfound made hlast, State.endLot_clean hdone made (by simp [Lot.batchDone])]
  · intro hdelivered hclean hbusy hplaces shortfall key taken full closes
    have hended := State.endLot_clean hfound made (by simp [hdelivered, hclean])
    have hplace : 0 < s.rif.freePlaces := Nat.sub_pos_of_lt hplaces
    have hkey : makeUpKey l.key = key := makeUpKey_eq l.key
    have hrest : (s.lot.table.filter fun x => x.key != l.key) = front ++ back := by
      rw [htable]
      exact State.endLot_middle_removes hkeys
    have htaken : (s.lot.table.any fun x => x.key != l.key && x.key == makeUpKey l.key) = true ↔ taken := by
      rw [htable, hkey]
      exact makeUpKey_taken hkeys
    have hcloses (outcome : MakeUp) (houtcome : s.makeUpOutcome l = outcome) (hmade : outcome ≠ .made) :
        closes outcome none (front ++ back) := by
      have hdissolved := State.dissolveLot_told made houtcome hbusy hplace
      have hfalse : (outcome == MakeUp.made) = false := beq_false_of_ne hmade
      rw [State.tableAfter, if_neg hmade, hrest, hfalse, lotDoneOf, if_neg hmade] at hdissolved
      exact hended.trans hdissolved
    refine ⟨fun hzero => hcloses _ ?_ MakeUp.noConfusion, fun hshort hno => hcloses _ ?_ MakeUp.noConfusion,
      fun hshort hyes hfull => hcloses _ ?_ MakeUp.noConfusion,
      fun hshort hyes hroom hkeyed => hcloses _ ?_ MakeUp.noConfusion, ?_⟩
    · exact if_pos hzero
    · rw [State.makeUpOutcome, if_neg hshort, if_pos hno]
    · rw [State.makeUpOutcome, if_neg hshort, hyes, if_neg Bool.noConfusion]
      exact if_pos hfull
    · rw [State.makeUpOutcome, if_neg hshort, hyes, if_neg Bool.noConfusion]
      exact (if_neg hroom).trans (if_pos (htaken.mpr hkeyed))
    · intro hshort hyes hroom hfree ahead earlier behind hsplit hahead hearlier hle heq hbehind
      have houtcome : s.makeUpOutcome l = .made := by
        rw [State.makeUpOutcome, if_neg hshort, hyes, if_neg Bool.noConfusion]
        exact (if_neg hroom).trans (if_neg fun h => hfree (htaken.mp h))
      have hdissolved := State.dissolveLot_told made houtcome hbusy hplace
      rw [State.tableAfter, if_pos rfl, hrest, hsplit, placeMakeUp_at _ ahead earlier behind made hahead hearlier hle heq hbehind, lotDoneOf,
        if_pos rfl, hkey] at hdissolved
      exact hended.trans hdissolved

/-! ### LOT_CANCEL -/

theorem State.findLot_first {before after : List Lot} {l : Lot} {k : LotKey} {s : State}
    (htable : s.lot.table = before ++ l :: after) (hl : l.key = k) (hbefore : ∀ x ∈ before, x.key ≠ k) :
    s.findLot k = some l := by
  have hnone : before.find? (fun x => x.key == k) = none := by
    rw [List.find?_eq_none]
    exact fun x hx => by simpa using hbefore x hx
  simp [State.findLot, htable, List.find?_append, hnone, hl]

theorem State.findLot_none {k : LotKey} {s : State} (h : ∀ l ∈ s.lot.table, l.key ≠ k) : s.findLot k = none := by
  rw [State.findLot, List.find?_eq_none]
  exact fun l hl => by simpa using h l hl

/-- A write to the lots of a key does not show where they have left. -/
theorem filter_writeLot (k : LotKey) (f : Lot → Lot) (hf : ∀ l, (f l).key = l.key) (table : List Lot) :
    ((table.map fun l => if l.key = k then f l else l).filter fun x => x.key ≠ k) = table.filter fun l => l.key ≠ k := by
  induction table with
  | nil => rfl
  | cons x rest ih =>
    by_cases hx : x.key = k
    · simpa [hx, (hf x).trans hx] using ih
    · simpa [hx] using ih

/-- The outcome of a cancelled lot: none is made (R133, R140). -/
theorem State.makeUpOutcome_cancelled {l : Lot} (s : State) (h : l.makeUp = false) :
    s.makeUpOutcome l = if l.target - l.stacked = 0 then .notNeeded else .disabled := by
  rw [State.makeUpOutcome, if_pos h]

/-! ### Notices in a row -/

/-- Notices placed one behind the other. -/
def State.notices (l : List Notice) (s : State) : State := l.foldl (fun t n => t.notice n) s

theorem State.notice_withLot (n : Notice) (u : LotUnit) (s : State) :
    State.notice n { s with lot := u } = { s.notice n with lot := u } := by
  unfold State.notice
  show (if 0 < s.rif.freePlaces then _ else _) = _
  split <;> rfl

theorem State.notices_eq (l : List Notice) (s : State) :
    s.notices l = { s with sup := { s.sup with counters := (s.notices l).sup.counters }, rif := (s.notices l).rif } := by
  induction l generalizing s with
  | nil => rfl
  | cons n rest ih =>
    have hfirst := State.notice_eq n s
    show (s.notice n).notices rest = _
    rw [ih (s.notice n)]
    generalize hcounters : ((s.notice n).notices rest).sup.counters = counters
    generalize hrif : ((s.notice n).notices rest).rif = rif
    rw [hfirst]
    show _ = { s with
      sup := { s.sup with counters := ((s.notice n).notices rest).sup.counters }, rif := ((s.notice n).notices rest).rif }
    rw [hcounters, hrif]

/-- Notices with places, on a busy wire. -/
theorem State.notices_rif {l : List Notice} {s : State} (hbusy : s.rif.tx ≠ .idle) (hroom : l.length ≤ s.rif.freePlaces) :
    (s.notices l).rif = { s.rif with
      management := s.rif.management ++ l.map (.notice s.settings.noticeAddress) } := by
  induction l generalizing s with
  | nil => simp [State.notices]
  | cons n rest ih =>
    rw [List.length_cons] at hroom
    have hfirst : s.notice n =
        { s with rif := { s.rif with management := s.rif.management ++ [.notice s.settings.noticeAddress n] } } := by
      rw [State.notice, if_pos (by omega), Rif.pushManagement_busy _ _ hbusy]
    have hrest : rest.length ≤ (s.notice n).rif.freePlaces := by
      rw [hfirst]
      show rest.length ≤ 16 - ((s.rif.management ++ [_]).length + s.rif.reserved)
      have hplaces : rest.length + 1 ≤ 16 - (s.rif.management.length + s.rif.reserved) := hroom
      rw [List.length_append, List.length_singleton]
      omega
    have htx : (s.notice n).rif.tx ≠ .idle := by rw [hfirst]; exact hbusy
    show ((s.notice n).notices rest).rif = _
    rw [ih htx hrest, hfirst]
    dsimp only
    rw [List.append_assoc, List.map_cons, List.singleton_append]
    rfl

/-! ### A cancelled lot's end -/

/-- The contents of a cancelled lot's notice (R133, R139). -/
def Lot.cancelDone (l : Lot) : LotDone :=
  ⟨l.key, l.format, l.target, l.batchSize, l.cut, l.stacked, l.diverted, l.undiverted, l.purged, l.completed,
    l.target - l.stacked, if l.target - l.stacked = 0 then .notNeeded else .disabled, none⟩

theorem State.dissolveLot_cancelled {l : Lot} (skip : Nat) (u : LotUnit) (s : State) (h : l.makeUp = false) :
    (State.dissolveLot l skip { s with lot := u }).1 = { s.notice (.lotDone l.cancelDone) with
      lot := { u with table := u.table.filter fun x => x.key ≠ l.key } } := by
  have hfilter : (u.table.filter fun x => x.key != l.key) = u.table.filter fun x => x.key ≠ l.key :=
    List.filter_congr fun x _ => by by_cases hx : x.key = l.key <;> simp [hx]
  have hdone : lotDoneOf l (if l.target - l.stacked = 0 then .notNeeded else .disabled) = l.cancelDone := by
    unfold lotDoneOf Lot.cancelDone
    congr 1
    split <;> rfl
  have hout : (if l.target - l.stacked = 0 then .notNeeded else .disabled : MakeUp) ≠ .made := by
    split <;> exact MakeUp.noConfusion
  unfold State.dissolveLot
  dsimp only
  rw [State.makeUpOutcome_cancelled _ h, hdone, State.notice_withLot, if_neg hout, hfilter]

/-- The notices of a cancelled lot's end: of the last batch, where there is one, and of the lot (R121, R139). -/
def Lot.endNotices (l : Lot) (boxes : Nat) : List Notice :=
  if 0 < l.delivered ∨ l.contaminated = true then
    [.batchDone (batchOf l true) true (boxes + 1), .lotDone l.batchDone.cancelDone]
  else [.lotDone l.cancelDone]

/-- The box queue after a cancelled lot's end. -/
def Lot.endBoxes (l : Lot) (s : State) : List BoxEntry :=
  if 0 < l.delivered ∨ l.contaminated = true then s.lot.boxes ++ [⟨batchOf l true, s.settings.boxDeadline⟩]
  else s.lot.boxes

theorem State.endLot_cancelled {k : LotKey} {l : Lot} {s : State} (h : s.findLot k = some l) (hno : l.makeUp = false)
    (hroom : 0 < l.delivered ∨ l.contaminated = true → s.lot.boxes.length < 2) :
    (s.endLot k 0).1 = { s.notices (l.endNotices s.lot.boxes.length) with
      lot := { s.lot with table := s.lot.table.filter fun x => x.key ≠ k, boxes := l.endBoxes s } } := by
  obtain rfl := State.findLot_key h
  by_cases hlast : 0 < l.delivered ∨ l.contaminated = true
  · have htable := filter_writeLot l.key Lot.batchDone (fun _ => rfl) s.lot.table
    rw [State.endLot_batch h 0 hlast, State.completeBatch_room true h (hroom hlast), State.notice_withLot,
      State.dissolveLot_cancelled 0 _ _ (show l.batchDone.makeUp = false from hno), Lot.endNotices, Lot.endBoxes,
      if_pos hlast, if_pos hlast, ← htable]
    rfl
  · rw [State.endLot_clean h 0 hlast, Lot.endNotices, Lot.endBoxes, if_neg hlast, if_neg hlast]
    exact State.dissolveLot_cancelled 0 s.lot s hno

/-! ### LOT_CANCEL by the lot's state -/

theorem lotCancelOwner_missing {id : Half} {makeUp : Byte} {s : State} (h : s.findLot ⟨id.toNat, makeUp.toNat⟩ = none) :
    lotCancelOwner id makeUp s = (s, .plain .unknownId) := by
  unfold lotCancelOwner
  dsimp only
  rw [h]

theorem lotCancelOwner_found {id : Half} {makeUp : Byte} {l : Lot} {s : State}
    (h : s.findLot ⟨id.toNat, makeUp.toNat⟩ = some l) :
    (l.state = .queued → lotCancelOwner id makeUp s =
      ({ s with lot := { s.lot with table := s.lot.table.filter fun x => x.key != ⟨id.toNat, makeUp.toNat⟩ } },
        .one .accepted [0])) ∧
    (l.state = .closed → lotCancelOwner id makeUp s =
      (s.writeLot ⟨id.toNat, makeUp.toNat⟩ fun x => { x with makeUp := false }, .one .accepted [1])) ∧
    (l.state = .cutting → 0 < l.inFlight → lotCancelOwner id makeUp s =
      (s.writeLot ⟨id.toNat, makeUp.toNat⟩ fun x => { x with state := .closed, makeUp := false }, .one .accepted [1])) ∧
    (l.state = .cutting → l.inFlight = 0 → lotCancelOwner id makeUp s =
      (((s.writeLot ⟨id.toNat, makeUp.toNat⟩ fun x => { x with state := .closed, makeUp := false }).endLot
        ⟨id.toNat, makeUp.toNat⟩ 0).1, .one .accepted [2])) := by
  unfold lotCancelOwner
  dsimp only
  rw [h]
  dsimp only
  refine ⟨fun hstate => ?_, fun hstate => ?_, fun hstate hflight => ?_, fun hstate hflight => ?_⟩
  · rw [hstate]
    rfl
  · rw [hstate]
    rfl
  · rw [hstate]
    exact if_neg hflight.ne'
  · rw [hstate]
    exact if_pos hflight

/-- A CUTTING lot after its cancel (R133). -/
def Lot.cancelled (l : Lot) : Lot := { l with state := .closed, makeUp := false }

/-- Settles O38: the lot found decides; a lot that ends leaves its notices ahead of the answer. -/
theorem lotCancelByTheState : Obligations.LotCancelByTheState := by
  intro src tag id makeUp s htakes hs run key with' without
  have hservice : service (.lotCancel src tag id makeUp) =
    some ⟨src, 11, tag, fun _ => 1, lotCancelOwner id makeUp, true⟩ := rfl
  refine ⟨fun hnone => ?_, fun before l after htable hl hbefore => ?_⟩
  · exact exec_answered hservice htakes (lotCancelOwner_missing (s := s.serving 1) (State.findLot_none hnone)) rfl
      fun _ => hs
  · have hfound : (s.serving 1).findLot key = some l := State.findLot_first (s := s.serving 1) htable hl hbefore
    obtain ⟨hqueued, hclosed, hcutting, hended⟩ := lotCancelOwner_found hfound
    have hfilter : (s.lot.table.filter fun x => x.key != key) = without :=
      List.filter_congr fun x _ => by by_cases hx : x.key = key <;> simp [hx]
    refine ⟨fun hstate => ?_, fun hstate => ?_, fun hstate hflight => ?_, ?_⟩
    · rw [← hfilter]
      exact exec_answered hservice htakes (hqueued hstate) rfl fun _ => hs
    · exact exec_answered hservice htakes (hclosed hstate) rfl fun _ => hs
    · exact exec_answered hservice htakes (hcutting hstate hflight) rfl fun _ => hs
    · intro hstate hflight last hroom
      have hwritten : ((s.serving 1).writeLot key Lot.cancelled).findLot key = some l.cancelled := by
        rw [State.findLot_writeLot key Lot.cancelled, hfound]
        rfl
      have howner : lotCancelOwner id makeUp (s.serving 1) =
          ((((s.serving 1).writeLot key Lot.cancelled).endLot key 0).1, .one .accepted [2]) := hended hstate hflight
      rw [State.endLot_cancelled hwritten rfl hroom] at howner
      generalize hnotices : l.cancelled.endNotices ((s.serving 1).writeLot key Lot.cancelled).lot.boxes.length = ns
        at howner
      have hcount : ns.length ≤ 2 := by
        rw [← hnotices, Lot.endNotices]
        split
        · exact Nat.le_refl 2
        · exact Nat.le_succ 1
      have hframe := State.notices_eq ns ((s.serving 1).writeLot key Lot.cancelled)
      have hwire := State.notices_rif (l := ns) (s := (s.serving 1).writeLot key Lot.cancelled)
      generalize State.notices ns ((s.serving 1).writeLot key Lot.cancelled) = v at howner hframe hwire
      refine ⟨_, exec_replied hservice htakes howner fun _ => ?_, ?_, rfl, fun hnot => if_neg hnot,
        fun hlast => ?_, fun hbusy hplaces => ?_, ?_⟩
      · rw [hframe]
        exact hs
      · exact filter_writeLot key Lot.cancelled (fun _ => rfl) s.lot.table
      · rw [← hl]
        exact if_pos hlast
      · have hrif := hwire hbusy (hcount.trans (State.serving_freePlaces (n := 1) (k := 2) (by omega)))
        rw [Reply.one, State.replied_rif (by rw [hrif]; exact hbusy)]
        dsimp only
        rw [hrif, ← hl]
        show s.rif.management ++ _ ++ _ = _
        by_cases hlast : 0 < l.delivered ∨ l.contaminated = true
        · have hlist : ns = [.batchDone (batchOf l.cancelled true) true (s.lot.boxes.length + 1),
            .lotDone l.cancelled.batchDone.cancelDone] := hnotices.symm.trans (if_pos hlast)
          rw [hlist]
          simp only [last, if_pos hlast, List.append_assoc]
          rfl
        · have hlist : ns = [.lotDone l.cancelled.cancelDone] := hnotices.symm.trans (if_neg hlast)
          rw [hlist]
          simp only [last, if_neg hlast, List.append_assoc]
          rfl
      · rw [hframe]
        rfl

end Sys2Proof.Machine

/-! ## Settled: the lock, the trim, a defect write and the final point -/

namespace Sys2Proof.Machine

/-! ### The lock (R42 to R44, R49) -/

theorem goodMark_iff {f : RegSettings} {error : Option Int} :
    goodMark f error = true ↔ ∃ e, error = some e ∧ -(f.lockWindow : Int) ≤ e ∧ e ≤ f.lockWindow := by
  cases error with
  | none => simp [goodMark]
  | some e =>
    have hbound : e.natAbs ≤ f.lockWindow ↔ -(f.lockWindow : Int) ≤ e ∧ e ≤ f.lockWindow := by omega
    simp only [goodMark, decide_eq_true_eq, hbound, Option.some.injEq, exists_eq_left']

/-- The lock's table, for settings in force. -/
theorem State.lockMark_inForce {f : RegSettings} (error : Option Int) {s : State} (h : s.reg.inForce = some f) :
    (s.reg.lock = .off → s.lockMark error = s) ∧
    (s.reg.lock = .holdoff → s.lockMark error = { s with reg := { s.reg with
      holdoff := s.reg.holdoff - 1, lock := if s.reg.holdoff - 1 = 0 then .search else .holdoff } }) ∧
    (s.reg.lock = .search → s.lockMark error =
      if goodMark f error then { s with reg := { s.reg with lock := .acquire, matchCount := 1 } } else s) ∧
    (s.reg.lock = .acquire → s.lockMark error =
      if goodMark f error then
        if s.reg.matchCount + 1 = 3 then
          { s with reg := { s.reg with lock := .locked, matchCount := 0, missCount := 0 } }
        else { s with reg := { s.reg with matchCount := s.reg.matchCount + 1 } }
      else { s with reg := { s.reg with lock := .search, matchCount := 0 } }) ∧
    (s.reg.lock = .locked → error = none → s.lockMark error =
      if f.lossLimit ≤ s.reg.missCount + 1 then
        { s with reg := { s.reg with lock := .search, missCount := 0, lost := true } }.raise .regLost .none
          (.number f.lossLimit)
      else { s with reg := { s.reg with missCount := s.reg.missCount + 1 } }) ∧
    ∀ e, s.reg.lock = .locked → error = some e → s.lockMark error =
      { s with reg := { s.reg with missCount := 0 } }.correctTrim f e := by
  unfold State.lockMark
  rw [h]
  dsimp only
  refine ⟨fun hl => ?_, fun hl => ?_, fun hl => ?_, fun hl => ?_, fun hl he => ?_, fun e hl he => ?_⟩ <;> rw [hl]
  · rw [he]
  · rw [he]

/-- Settles O47: the lock's table and the splice pulse, case by case. -/
theorem lockMovesByTheDecision : Obligations.LockMovesByTheDecision := by
  intro f error s hforce good t moved
  obtain ⟨hoff, hholdoff, hsearch, hacquire, hmissed, -⟩ := State.lockMark_inForce error hforce
  have hgood : goodMark f error = true ↔ good := goodMark_iff
  refine ⟨hoff, fun hl => ?_, fun hl => ⟨fun h => ?_, fun h => ?_⟩, fun hl => ⟨fun h => ?_, fun h hm => ?_, fun h hm => ?_⟩,
    fun hl he => ⟨fun h => ?_, fun h => ?_⟩, fun hl => ?_, fun hl => ?_⟩
  · have hlast : s.reg.holdoff - 1 = 0 ↔ s.reg.holdoff ≤ 1 := by omega
    simp only [t, hholdoff hl, hlast]
  · exact (hsearch hl).trans (if_pos (hgood.mpr h))
  · exact (hsearch hl).trans (if_neg fun hg => h (hgood.mp hg))
  · exact (hacquire hl).trans (if_neg fun hg => h (hgood.mp hg))
  · refine (hacquire hl).trans ((if_pos (hgood.mpr h)).trans ((if_neg (by omega)).trans ?_))
    simp only [moved, ← hl]
  · exact (hacquire hl).trans ((if_pos (hgood.mpr h)).trans (if_pos (by omega)))
  · refine (hmissed hl he).trans ((if_neg (by omega)).trans ?_)
    simp only [moved, ← hl]
  · exact (hmissed hl he).trans (if_pos h)
  · unfold State.splicePulse
    rw [hforce]
    cases hlock : s.reg.lock with
    | off => exact absurd hlock hl
    | _ => rfl
  · unfold State.splicePulse
    rw [hl]

/-! ### The trim (R46 to R48) -/

theorem clamp_eq (limit : Nat) (x : Int) : clamp limit x = max (-(limit : Int)) (min limit x) := by
  unfold clamp
  split
  · omega
  · split <;> omega

theorem roundSixteenth_bounds (x : Int) :
    (roundSixteenth x).natAbs * 16 ≤ x.natAbs + 8 ∧ x.natAbs + 8 < ((roundSixteenth x).natAbs + 1) * 16 := by
  unfold roundSixteenth
  split <;> omega

theorem roundSixteenth_sign (x : Int) : (0 ≤ x → 0 ≤ roundSixteenth x) ∧ (x ≤ 0 → roundSixteenth x ≤ 0) := by
  unfold roundSixteenth
  split <;> omega

/-- Settles O48: the correction's trim by its bounds, and its frame with room on a busy wire. -/
theorem trimFollowsTheError : Obligations.TrimFollowsTheError := by
  intro f e s hforce hlock hroom hbusy
  obtain ⟨hpos, hneg⟩ := roundSixteenth_sign (e * f.gain)
  refine ⟨roundSixteenth (e * f.gain), roundSixteenth_bounds _, hpos, hneg, ?_⟩
  intro step trim sent
  obtain ⟨-, -, -, -, -, hlocked⟩ := State.lockMark_inForce (some e) hforce
  have htrim : correctedTrim f s.reg.trim e = trim := by
    rw [correctedTrim, clamp_eq, clamp_eq]
  have hcorrected := hlocked e hlock rfl
  have hplaced : ({ s with reg := { s.reg with missCount := 0, trim := trim } } : State).placeTrim = sent := by
    refine (State.placeOutbound_room _ ({ s with reg := { s.reg with missCount := 0, trim := trim } } : State) hroom).trans ?_
    rw [Rif.pushOutbound_busy _ _ hbusy]
    rfl
  unfold State.correctTrim at hcorrected
  dsimp only at hcorrected
  rw [htrim, hplaced] at hcorrected
  refine ⟨fun hsame => hcorrected.trans (if_pos hsame), fun hmoved hlimit => ?_, fun hmoved hlimit => ?_⟩
  · exact hcorrected.trans ((if_neg hmoved).trans (if_pos hlimit))
  · exact hcorrected.trans ((if_neg hmoved).trans (if_neg hlimit))

/-! ### A defect write (R59, R60, R62) -/

theorem Defects.has_add (d : Defects) (reason q : Reason) : (d.add reason).has q = (decide (q = reason) || d.has q) := by
  cases reason <;> cases q <;> rfl

theorem Record.reject_of_has {r : Record} {reason : Reason} (h : r.defects.has reason = true) : r.reject = true := by
  unfold Record.reject
  cases reason <;> simp_all [Defects.has]

theorem State.findRecord_mem {serial : Nat} {r : Record} {s : State} (h : s.findRecord serial = some r) :
    r ∈ s.trq.queue ∧ r.serial = serial :=
  ⟨List.mem_of_find?_eq_some h, by simpa using List.find?_some h⟩

theorem State.writeDefect_refused {serial : Nat} {reason : Reason} {more : Record → Record} {s : State}
    (h : ∀ r ∈ s.trq.queue, r.serial = serial → r.final.isSome = true) :
    s.writeDefect serial reason more = s.bump ctrDefectsAfterFinal := by
  unfold State.writeDefect
  cases hr : s.findRecord serial with
  | none => rfl
  | some r =>
    obtain ⟨hmem, hserial⟩ := State.findRecord_mem hr
    exact if_pos (h r hmem hserial)

/-- A defect written into a record that is still open (R59). -/
theorem State.writeDefect_taken {serial : Nat} {reason : Reason} {more : Record → Record} {before after : List Record}
    {r : Record} {s : State} (hq : s.trq.queue = before ++ r :: after) (hserial : r.serial = serial)
    (hopen : r.final = none) (hothers : ∀ x ∈ before ++ after, x.serial ≠ serial) :
    s.writeDefect serial reason more =
      State.bumpIf (!r.defects.has reason) (ctrReason reason)
        { s with trq := { s.trq with
            queue := before ++ more { r with defects := r.defects.add reason } :: after } } := by
  subst hserial
  have hnot : ¬r.final.isSome = true := by rw [hopen]; exact Bool.false_ne_true
  rw [State.writeDefect, State.findRecord_middle hq hothers]
  dsimp only
  rw [if_neg hnot, State.writeRecord_middle _ hq hothers]

theorem State.bumpIf_set (p : Bool) (c : Fin 38) (s : State) : s.bumpIf (!p) c = { s with sup := { s.sup with
    counters := if p then s.sup.counters else s.sup.counters.set c (saturate (s.sup.counters.get c)) } } := by
  cases p <;> rfl

/-- Settles O49: a record that has left or is frozen refuses the write; an open one takes the reason once. -/
theorem defectIsAddedOnceOrCounted : Obligations.DefectIsAddedOnceOrCounted := by
  intro serial reason s t bumped
  refine ⟨fun h => State.writeDefect_refused h, fun before r after hq hserial hopen hothers => ?_⟩
  have hwritten := State.writeDefect_taken (reason := reason) (more := id) hq hserial hopen hothers
  have hhas : (r.defects.add reason).has reason = true := by simp [Defects.has_add]
  refine ⟨{ r with defects := r.defects.add reason }, ?_, rfl, hhas, fun q hq => ?_, Record.reject_of_has hhas, ?_⟩
  · exact (congrArg State.trq hwritten).trans (State.bumpIf_trq _ _ _)
  · simp [Defects.has_add, hq]
  · have hset := hwritten.trans (State.bumpIf_set _ _ _)
    rw [show t = s.writeDefect serial reason id from rfl, hset]

/-! ### The gate's choice (R84, R114) -/

/-- Whether the gate rests: the window would merge and the merge count has reached the hold max (R84). -/
def State.gateRests (c : Fin 24) (w : Window) (on : Nat) (s : State) : Prop :=
  ∃ a, (s.camChannel c).activeOff = some a ∧
    s.onFiring c w.target on ≤ s.offFiring c a + (s.channel c).mergeGap ∧ (s.channel c).holdMax ≤ (s.camChannel c).merges

/-- The gate's branches for a record in the queue. -/
theorem State.gateDue_found {c : Fin 24} {w : Window} {r : Record} {s : State} (on off : Nat)
    (hr : s.findRecord w.serial = some r) :
    (r.reject = false → s.gateDue c w on off = eitherOrder (State.noFire c) (State.settleGood r) s) ∧
    (r.reject = true → ¬s.gateRests c w on →
      s.gateDue c w on off = eitherOrder (State.fire c w on off) (State.settleDiverted r) s) ∧
    ∀ a, r.reject = true → s.gateRests c w on → (s.camChannel c).activeOff = some a →
      s.gateDue c w on off = eitherOrder (fun s => (s.dropHead c).issueOff c a) (State.settleUndiverted r) s := by
  unfold State.gateDue
  rw [hr]
  dsimp only
  refine ⟨fun hreject => ?_, fun hreject hrests => ?_, fun a hreject hrests ha => ?_⟩
  · rw [hreject]
    rfl
  · rw [hreject, Bool.not_true, if_neg Bool.false_ne_true]
    split
    · rfl
    · next a ha =>
      exact if_neg fun h => hrests ⟨a, ha, of_decide_eq_true h.1, h.2⟩
  · rw [hreject, Bool.not_true, if_neg Bool.false_ne_true, ha]
    obtain ⟨a', ha', hmerge, hmax⟩ := hrests
    obtain rfl := Option.some.inj (ha'.symm.trans ha)
    exact if_pos ⟨decide_eq_true hmerge, hmax⟩

/-! ### The record's settlement (R115 to R117) -/

theorem State.lastUnsettled_iff {before after : List Record} {r : Record} {s : State}
    (hq : s.trq.queue = before ++ r :: after) (hothers : ∀ x ∈ before ++ after, x.serial ≠ r.serial) :
    s.lastUnsettled r = true ↔ ∀ x ∈ before ++ after, x.lot = r.lot → x.final.isSome = true := by
  rw [State.lastUnsettled, hq, List.all_eq_true]
  constructor
  · intro h x hx hlot
    have hmem : x ∈ before ++ r :: after := by
      rcases List.mem_append.mp hx with hb | ha
      · exact List.mem_append_left _ hb
      · exact List.mem_append_right _ (List.mem_cons_of_mem _ ha)
    simpa [hothers x hx, hlot] using h x hmem
  · intro h x hx
    rcases List.mem_append.mp hx with hb | ha
    · by_cases hlot : x.lot = r.lot
      · simp [h x (List.mem_append_left _ hb) hlot]
      · simp [hlot]
    · rcases List.mem_cons.mp ha with rfl | ha
      · simp
      · by_cases hlot : x.lot = r.lot
        · simp [h x (List.mem_append_right _ ha) hlot]
        · simp [hlot]

/-- A record and a lot written together. -/
theorem State.writeRecord_writeLot {before after : List Record} {r : Record} {front back : List Lot} {l : Lot} {s : State}
    (hq : s.trq.queue = before ++ r :: after) (hothers : ∀ x ∈ before ++ after, x.serial ≠ r.serial)
    (htable : s.lot.table = front ++ l :: back) (hlot : l.key = r.lot) (hkeys : ∀ x ∈ front ++ back, x.key ≠ l.key)
    (f : Record → Record) (g : Lot → Lot) :
    (s.writeRecord r.serial f).writeLot r.lot g = { s with
      trq := { s.trq with queue := before ++ f r :: after }
      lot := { s.lot with table := front ++ g l :: back } } := by
  rw [State.writeRecord_middle f hq hothers, ← hlot]
  exact State.writeLot_middle (s := { s with trq := { s.trq with queue := before ++ f r :: after } }) g htable hkeys

/-- Settles O50: the gate's branches, then the three settlements of a record and its lot. -/
theorem finalPointSettlesTheBlank : Obligations.FinalPointSettlesTheBlank := by
  refine ⟨?_, ?_⟩
  · intro c w on off before after r s hq hserial hothers t taken either rests
    have hfound : s.findRecord w.serial = some r := by
      rw [← hserial] at hothers ⊢
      exact State.findRecord_middle hq hothers
    obtain ⟨hgood, hdiverted, hundiverted⟩ := State.gateDue_found on off hfound
    have heither {f g : State → State} (h : t = eitherOrder f g s) : either f g :=
      (State.eitherOrder_choice f g s).imp h.trans h.trans
    exact ⟨fun hreject => heither (hgood hreject), fun hreject hrests => heither (hdiverted hreject hrests),
      fun a hreject hrests ha => heither (hundiverted a hreject hrests ha)⟩
  · intro before after r front back l s hq hothers htable hlot hkeys last batch ends written unmarked
    have hfound : s.findLot r.lot = some l := hlot ▸ State.findLot_middle htable hkeys
    have hlast := State.lastUnsettled_iff hq hothers
    have hwritten := State.writeRecord_writeLot hq hothers htable hlot hkeys
    have hunmarks : s.unmarks r = true ↔ unmarked := by
      rw [State.unmarks, hfound]
      simp only [Bool.and_eq_true, beq_iff_eq, hlast, unmarked, last]
    have hopened (f : Record → Record) : (if s.unmarks r then
        (s.writeRecord r.serial f).writeLot r.lot fun l => { l with openBatch := none }
        else s.writeRecord r.serial f) = written (f r) { l with openBatch := if s.unmarks r then none else l.openBatch } := by
      by_cases h : s.unmarks r = true
      · rw [if_pos h, if_pos h]
        exact hwritten _ _
      · rw [if_neg h, if_neg h, State.writeRecord_middle _ hq hothers]
        simp only [written, ← htable]
    refine ⟨?_, ?_, ?_⟩
    · have hends : (goodFinal l (s.lastUnsettled r)).1.batchEnd = true ↔ ends := by
        simp only [goodFinal, Bool.or_eq_true, Bool.and_eq_true, decide_eq_true_eq, beq_iff_eq, hlast, ends, last, or_assoc]
        rfl
      refine ⟨{ r with final := some .good, slot := some (goodFinal l (s.lastUnsettled r)).1 },
        (goodFinal l (s.lastUnsettled r)).2, ?_, rfl, ⟨(goodFinal l (s.lastUnsettled r)).1.batchEnd, rfl, hends⟩, ?_,
        fun h => ?_, fun h => ?_⟩
      · rw [State.settleGood, hfound]
        exact hwritten _ _
      · simp only [goodFinal]
        cases l.openBatch <;> rfl
      · exact if_pos (hends.mpr h)
      · exact if_neg fun hb => h (hends.mp hb)
    · refine ⟨{ r with final := some .diverted, unmarkedEnd := s.unmarks r },
        { l with openBatch := if s.unmarks r then none else l.openBatch }, ?_, rfl, hunmarks, rfl,
        fun h => if_pos (hunmarks.mpr h), fun h => if_neg fun hu => h (hunmarks.mp hu)⟩
      exact hopened fun x => { x with final := some .diverted, unmarkedEnd := s.unmarks r }
    · refine ⟨{ r with final := some .undiverted, unmarkedEnd := s.unmarks r, defects := { r.defects with rest := true } },
        { l with openBatch := if s.unmarks r then none else l.openBatch }, _, ?_, rfl, hunmarks, rfl,
        fun h => if_pos (hunmarks.mpr h), fun h => if_neg fun hu => h (hunmarks.mp hu), rfl⟩
      have hall := hopened fun x =>
        { x with final := some .undiverted, defects := x.defects.add .rest, unmarkedEnd := s.unmarks r }
      refine congrArg (State.raise .undivertedReject .stop (.key r.lot)) ?_
      rw [State.bumpIf_set]
      refine Eq.trans ?_ (congrArg (fun t : State => ({ t with sup := { s.sup with
        counters := if r.defects.rest then s.sup.counters
          else s.sup.counters.set (ctrReason .rest) (saturate (s.sup.counters.get (ctrReason .rest))) } } : State)) hall)
      dsimp only
      split <;> rfl

end Sys2Proof.Machine

/-! ## Settled: an EDGE frame from the wire to CHK, what a placed report does to the pulse of its input -/

namespace Sys2Proof.Machine

/-! ### The copy of an EDGE frame (R94, R178) -/

/-- A broadcast EDGE frame of another node that passes its check: CHK takes point, level and count, then the frame is
forwarded (R171 row 5). -/
theorem exec_edge_passes {src point : Byte} (level : Byte) (count : Half) {s : State} (hup : s.rif.linkUp = true)
    (hsrc : src ≠ s.rif.own) (hown : s.rif.own ≠ broadcast) (hpoint : point.toNat ≤ 15) :
    exec (.edge src point level count (frameCheck (edgeBody src point level count))) s =
      .next ((s.heard.takeEdge src point.toNat (edgeLevel level) count.toNat).forward
        (edgeBody src point level count ++ halfBytes (frameCheck (edgeBody src point level count)))) := by
  have hlen : (point :: level :: halfBytes count).length ≤ 240 := (by decide : 4 ≤ 240)
  have hcount : payloadHalf (point :: level :: halfBytes count) 2 = count.toNat :=
    payloadHalf_second point level count []
  have hcopy : s.heard.edgeCopy src (point :: level :: halfBytes count) =
      s.heard.takeEdge src point.toNat (edgeLevel level) count.toNat := by
    have hread : edgePoint point = point.toNat := if_pos hpoint
    rw [State.edgeCopy, hcount, ← hread]
    rfl
  have hhandled (bytes : List Byte) : s.heard.handleFrame broadcast src kindEdge (point :: level :: halfBytes count) bytes =
      (s.heard.edgeCopy src (point :: level :: halfBytes count)).forward bytes := by
    rw [State.handleFrame, if_neg (show src ≠ s.heard.rif.own from hsrc),
      if_neg (show broadcast ≠ s.heard.rif.own from hown.symm), if_neg (fun h => absurd h.2 (by decide)),
      if_pos ⟨rfl, rfl⟩]
  calc exec (.edge src point level count (frameCheck (edgeBody src point level count))) s
      = .next (s.receive broadcast src kindEdge (point :: level :: halfBytes count)
          (frameCheck (edgeBody src point level count))) := rfl
    _ = _ := by
      rw [edgeBody, State.receive_passes _ _ _ _ s hup hlen, hhandled, hcopy]

/-- A report of a channel's input, the position KNOWN and near enough, is an edge of the input's pulse (R94, R95). -/
theorem State.takeEdge_placed {src : Byte} {point : Nat} {count : Nat} {s : State} {i : Fin 16} (level : InLevel)
    (hfound : s.mapEdge (edgeKey src point) = some i) (hknown : s.pos.state = .known)
    (hahead : countStep s.pos.lastCount count ≤ 512)
    (hbehind : ¬(countStep s.pos.lastCount count < -4096 ∨ (s.pos.raw : Int) + countStep s.pos.lastCount count < 0)) :
    s.takeEdge src point level count =
      if level = (s.input i).activeLevel then s.leadingEdge i (s.pos.raw + countStep s.pos.lastCount count)
      else s.trailingEdge i (s.pos.raw + countStep s.pos.lastCount count) := by
  rw [State.takeEdge, hfound]
  dsimp only
  rw [if_neg (by rw [hknown]; decide), if_neg (by omega), if_neg hbehind]

/-- Settles O20: the tests of R2 and R94, R95 in their order, each failing one a counter. -/
theorem foreignAndUnplacedFramesAreOnlyCounted : Obligations.ForeignAndUnplacedFramesAreOnlyCounted := by
  refine ⟨?_, ?_⟩
  · intro src count time s hup hsrc hown hforeign body
    have hcounted : s.heard.takeAngle src count.toNat time.toNat = s.heard.bump ctrAngleForeign := if_neg hforeign
    rw [exec_angle_passes src count time s hup hsrc hown, hcounted]
    rfl
  · intro src point level count s hup hsrc hown hpoint body d found counted
    have hcounted {c : Fin 38}
        (h : s.heard.takeEdge src point.toNat (edgeLevel level) count.toNat = s.heard.bump c) :
        exec (.edge src point level count (frameCheck body)) s = .next (counted c) := by
      rw [exec_edge_passes level count hup hsrc hown hpoint, h]
      rfl
    refine ⟨fun hnone => hcounted ?_, fun hsome hunknown => hcounted ?_, fun hsome hknown hahead => hcounted ?_,
      fun hsome hknown hnear hbehind => hcounted ?_⟩
    · rw [State.takeEdge, show s.heard.mapEdge (edgeKey src point.toNat) = none from hnone]
    all_goals
      obtain ⟨i, hi⟩ := Option.ne_none_iff_exists'.1 hsome
      rw [State.takeEdge, show s.heard.mapEdge (edgeKey src point.toNat) = some i from hi]
    · exact if_pos hunknown
    · have hk : ¬s.heard.pos.state = .unknown := fun h => absurd (hknown.symm.trans h) (by decide)
      exact (if_neg hk).trans (if_pos hahead)
    · have hk : ¬s.heard.pos.state = .unknown := fun h => absurd (hknown.symm.trans h) (by decide)
      exact (if_neg hk).trans ((if_neg (Int.not_lt.2 hnear)).trans (if_pos hbehind))

/-! ### Pulses (R96 to R98) -/

/-- The code of a level that can occur is the active one's where the edge is leading. -/
theorem edgeLevel_active {level : Byte} (active : InLevel) (h : level.toNat ≤ 1) :
    edgeLevel level = active ↔ level.toNat = if active = .high then 1 else 0 := by
  have hcode : level.toNat = 0 ∨ level.toNat = 1 := by omega
  unfold edgeLevel
  rcases hcode with hzero | hone
  · rw [hzero]; cases active <;> decide
  · rw [hone]; cases active <;> decide

theorem State.chkInput_setChk (i : Fin 16) (f : ChkInput → ChkInput) (s : State) :
    (s.setChk i f).chkInput i = f (s.chkInput i) := by
  show (updateAt s.chk i f).get i = _
  simp [updateAt, State.chkInput, Vector.get_eq_getElem]

theorem State.chkInput_setChk_ne {i j : Fin 16} (f : ChkInput → ChkInput) (s : State) (h : j ≠ i) :
    (s.setChk i f).chkInput j = s.chkInput j := by
  have hne : i.val ≠ j.val := fun e => h (Fin.ext e.symm)
  show (updateAt s.chk i f).get j = _
  simp [updateAt, State.chkInput, Vector.get_eq_getElem, hne]

/-- A PENDING pulse opens at its glitch minimum and is handed on with the word open (R98). -/
theorem State.acceptOpen_pending {i : Fin 16} {lead : Int} {s : State} (h : (s.chkInput i).pulse = .pending lead) :
    s.acceptOpen i = if lead + (s.input i).glitchMin ≤ s.pos.held then
      (s.setChk i fun x => { x with pulse := .open lead }).routePulse i lead none else s := by
  unfold State.acceptOpen
  rw [h]

/-- The last change of a pulse stands. -/
theorem State.setChk_setChk (i : Fin 16) (f g : ChkInput → ChkInput) (s : State) :
    (s.setChk i f).setChk i g = s.setChk i (g ∘ f) := by
  have hget : (updateAt s.chk i f).get i = f (s.chk.get i) := State.chkInput_setChk i f s
  have hboth : updateAt (updateAt s.chk i f) i g = updateAt s.chk i (g ∘ f) := by
    rw [updateAt, hget]
    simp [updateAt]
  exact congrArg (fun v => { s with chk := v }) hboth

/-- The pulse a leading edge meets is counted as a glitch, and an open mark pulse no longer awaits its width (R96). -/
def State.beginPulse (i : Fin 16) (s : State) : State :=
  match (s.chkInput i).pulse with
  | .none => s
  | .pending _ => s.bump ctrGlitches
  | .open lead => { s.bump ctrGlitches with reg := { s.reg with openCandidate :=
      if (s.input i).function = .mark ∧ s.reg.openCandidate = some lead then none else s.reg.openCandidate } }

/-- What a pulse begun leaves alone. -/
theorem State.beginPulse_frame (i : Fin 16) (s : State) :
    (s.beginPulse i).chk = s.chk ∧ (s.beginPulse i).pos = s.pos ∧ (s.beginPulse i).store = s.store := by
  unfold State.beginPulse
  cases (s.chkInput i).pulse <;> exact ⟨rfl, rfl, rfl⟩

/-- A leading edge: the pulse begins at its position and opens where the held position is at its glitch minimum (R96). -/
theorem State.leadingEdge_eq (i : Fin 16) (position : Int) (s : State) :
    s.leadingEdge i position =
      ((s.beginPulse i).setChk i fun x => { x with pulse := .pending position }).acceptOpen i := by
  unfold State.leadingEdge State.beginPulse
  rcases (s.chkInput i).pulse with _ | _ | lead
  · rfl
  · rfl
  · dsimp only
    by_cases hcandidate : (s.input i).function = .mark ∧ s.reg.openCandidate = some lead
    · rw [if_pos hcandidate, if_pos hcandidate]
      rfl
    · rw [if_neg hcandidate, if_neg hcandidate]
      rfl

/-- A leading edge below its glitch minimum waits. -/
theorem State.leadingEdge_waits {i : Fin 16} {position : Int} {s : State}
    (h : (s.pos.held : Int) < position + (s.input i).glitchMin) :
    s.leadingEdge i position = (s.beginPulse i).setChk i fun x => { x with pulse := .pending position } := by
  obtain ⟨-, hpos, hstore⟩ := s.beginPulse_frame i
  rw [State.leadingEdge_eq, State.acceptOpen_pending (lead := position) (by rw [State.chkInput_setChk])]
  refine if_neg ?_
  show ¬position + (((s.beginPulse i).store.inputs.get i).glitchMin : Int) ≤ (s.beginPulse i).pos.held
  rw [hpos, hstore]
  exact Int.not_le.2 h

/-- A leading edge at or beyond its glitch minimum opens and is handed on. -/
theorem State.leadingEdge_opens {i : Fin 16} {position : Int} {s : State}
    (h : position + (s.input i).glitchMin ≤ s.pos.held) :
    s.leadingEdge i position =
      ((s.beginPulse i).setChk i fun x => { x with pulse := .open position }).routePulse i position none := by
  obtain ⟨-, hpos, hstore⟩ := s.beginPulse_frame i
  rw [State.leadingEdge_eq, State.acceptOpen_pending (lead := position) (by rw [State.chkInput_setChk]),
    State.setChk_setChk]
  refine if_pos ?_
  show position + (((s.beginPulse i).store.inputs.get i).glitchMin : Int) ≤ (s.beginPulse i).pos.held
  rw [hpos, hstore]
  exact h

/-- A trailing edge by the pulse it meets (R97). -/
theorem State.trailingEdge_none {i : Fin 16} {s : State} (position : Int) (h : (s.chkInput i).pulse = .none) :
    s.trailingEdge i position = s := by
  unfold State.trailingEdge
  rw [h]

theorem State.trailingEdge_pending {i : Fin 16} {lead : Int} {s : State} (position : Int)
    (h : (s.chkInput i).pulse = .pending lead) :
    s.trailingEdge i position =
      if position - lead < 1 ∨ position - lead < (s.input i).glitchMin then
        (s.setChk i fun x => { x with pulse := .none }).bump ctrGlitches
      else (s.setChk i fun x => { x with pulse := .none }).routePulse i lead (some (position - lead)) := by
  unfold State.trailingEdge
  rw [h]

theorem State.trailingEdge_open {i : Fin 16} {lead : Int} {s : State} (position : Int)
    (h : (s.chkInput i).pulse = .open lead) :
    s.trailingEdge i position =
      if (s.input i).function = .mark then (s.setChk i fun x => { x with pulse := .none }).markWidth lead (position - lead)
      else s.setChk i fun x => { x with pulse := .none } := by
  unfold State.trailingEdge
  rw [h]

/-! ### A CHECK input's pulse (R102) -/

theorem inWindow_iff (x start stop : Int) : inWindow x start stop = true ↔ start ≤ x ∧ x ≤ stop := by
  simp [inWindow]

theorem Alternative.takes_iff (lead : Int) (a : Alternative) :
    a.takes lead = true ↔ (a.start ≤ lead ∧ lead ≤ a.stop) ∧ a.passed = false := by
  simp [Alternative.takes, inWindow_iff]

theorem Alternative.late_iff (lead : Int) (a : Alternative) :
    a.late lead = true ↔ (a.start ≤ lead ∧ lead ≤ a.stop) ∧ a.passed = true := by
  simp [Alternative.late, inWindow_iff]

/-- The alternatives of an input's pending checks, one of which a condition holds for. -/
theorem anyAlternative_iff (f : Alternative → Bool) (checks : List PendingCheck) :
    (checks.any fun p => p.alternatives.any f) = true ↔ ∃ p ∈ checks, ∃ a ∈ p.alternatives, f a = true := by
  simp [List.any_eq_true]

theorem lastClosedHolds_iff (w : Option (Int × Int)) (lead : Int) :
    (match w with | some w => inWindow lead w.1 w.2 | none => false) = true ↔
      ∃ v, w = some v ∧ v.1 ≤ lead ∧ lead ≤ v.2 := by
  cases w with
  | none => simp
  | some v => simp [inWindow_iff]

/-- Settles O21: a placed report is a leading or a trailing edge, each by the pulse it meets, and a pulse handed on goes
by the function of its input. -/
theorem placedReportMovesThePulse : Obligations.PlacedReportMovesThePulse := by
  refine ⟨?_, ?_⟩
  · intro src point level count s i hup hsrc hown hpoint hlevel hfound hknown d position hahead hbehind hfront leading
      glitch glitched pulsed begun
    have hplaced := State.takeEdge_placed (s := s.heard) (edgeLevel level) hfound hknown hahead (by
      show ¬(d < -4096 ∨ position < 0)
      omega)
    have hside := edgeLevel_active (s.input i).activeLevel hlevel
    have hlead (h : leading) : s.heard.takeEdge src point.toNat (edgeLevel level) count.toNat =
        s.heard.leadingEdge i position := hplaced.trans (if_pos (hside.2 h))
    have htrail (h : ¬leading) : s.heard.takeEdge src point.toNat (edgeLevel level) count.toNat =
        s.heard.trailingEdge i position := hplaced.trans (if_neg fun e => h (hside.1 e))
    have hbegun : s.heard.beginPulse i = begun := rfl
    refine ⟨_, exec_edge_passes level count hup hsrc hown hpoint, fun h hbelow => (hlead h).trans ?_,
      fun h hreached => (hlead h).trans ?_, fun h hnone => (htrail h).trans ?_, fun lead h hpending => ?_,
      fun lead h hopen => ?_⟩
    · exact State.leadingEdge_waits (s := s.heard) hbelow
    · exact State.leadingEdge_opens (s := s.heard) hreached
    · exact State.trailingEdge_none (s := s.heard) position hnone
    · have hedge := (htrail h).trans (State.trailingEdge_pending (s := s.heard) position hpending)
      exact ⟨fun hshort => hedge.trans (if_pos hshort), fun hlong => hedge.trans (if_neg hlong)⟩
    · have hedge := (htrail h).trans (State.trailingEdge_open (s := s.heard) position hopen)
      exact ⟨fun hmark => hedge.trans (if_pos hmark), fun hother => hedge.trans (if_neg hother)⟩
  · intro i lead width s
    refine ⟨fun h => by unfold State.routePulse; rw [h], fun h => by unfold State.routePulse; rw [h],
      fun h => by unfold State.routePulse; rw [h], ?_⟩
    intro hcheck t lies takes late
    have hrouted : t = s.checkPulse i lead := by
      show s.routePulse i lead width = _
      unfold State.routePulse
      rw [hcheck]
    have htakes : ((s.chkInput i).pending.any fun p => p.alternatives.any (Alternative.takes lead)) = true ↔ takes := by
      simp only [anyAlternative_iff, Alternative.takes_iff]; rfl
    have hlate : (((s.chkInput i).pending.any fun p => p.alternatives.any (Alternative.late lead)) ||
        match (s.chkInput i).lastClosed with | some w => inWindow lead w.1 w.2 | none => false) = true ↔ late := by
      rw [Bool.or_eq_true, lastClosedHolds_iff]
      simp only [anyAlternative_iff, Alternative.late_iff]; rfl
    refine ⟨fun hsafe => hrouted.trans (if_pos hsafe), fun hline hin => ?_, fun hline hout hin => ?_,
      fun hline hout hnot => ?_⟩
    · have hset := hrouted.trans ((if_neg hline).trans (if_pos (htakes.2 hin)))
      rw [hset]
      refine ⟨rfl, fun j hj => State.chkInput_setChk_ne _ s hj, (State.chkInput_setChk i _ s).trans ?_⟩
      simp only [Alternative.takes_iff, and_assoc]
    · have hset := hrouted.trans ((if_neg hline).trans (if_neg (mt htakes.1 hout)))
      exact hset.trans (if_pos (hlate.2 hin))
    · have hset := hrouted.trans ((if_neg hline).trans (if_neg (mt htakes.1 hout)))
      exact hset.trans (if_neg (mt hlate.1 hnot))

end Sys2Proof.Machine

/-! ## Settled: pending marks, mark pulses, and the mark decision -/

namespace Sys2Proof.Machine

/-! ### A condition's first entry in a list -/

theorem find?_middle {α : Type} {p : α → Bool} {before after : List α} {x : α} (hbefore : ∀ y ∈ before, ¬p y = true)
    (hx : p x = true) : (before ++ x :: after).find? p = some x := by
  rw [List.find?_append, List.find?_eq_none.2 hbefore, List.find?_cons_of_pos hx]
  rfl

theorem map_middle {α : Type} {p : α → Prop} [DecidablePred p] (f : α → α) {front back : List α} {x : α}
    (hothers : ∀ y ∈ front ++ back, ¬p y) (hx : p x) :
    ((front ++ x :: back).map fun y => if p y then f y else y) = front ++ f x :: back := by
  rw [List.map_append, List.map_cons, if_pos hx, map_of_none p f front fun y hy => hothers y (List.mem_append_left _ hy),
    map_of_none p f back fun y hy => hothers y (List.mem_append_right _ hy)]

/-! ### Creation (R38, R50) -/

theorem State.regCreate_clean {r : Record} {s : State} (h : s.reg.span = 0) :
    s.regCreate r = { s with reg := { s.reg with marks := s.reg.marks ++ [pendingMarkOf (s.format r.format) r] } } := by
  unfold State.regCreate
  rw [if_neg (by omega)]

/-- Within a splice span the record is poisoned, and the span is counted down (R50). -/
theorem State.regCreate_splice {before : List Record} {r : Record} {s : State} (h : 0 < s.reg.span)
    (hq : s.trq.queue = before ++ [r]) (hbefore : ∀ x ∈ before, x.serial ≠ r.serial) (hopen : r.final = none)
    (hclean : r.defects.splice = false) :
    s.regCreate r = { s.bump (ctrReason .splice) with
      reg := { s.reg with marks := s.reg.marks ++ [pendingMarkOf (s.format r.format) r], span := s.reg.span - 1 }
      trq := { s.trq with
        queue := before ++ [{ r with poisoned := true, defects := { r.defects with splice := true } }] } } := by
  have hothers : ∀ x ∈ before ++ [], x.serial ≠ r.serial := by simpa using hbefore
  unfold State.regCreate
  rw [if_pos h, State.writeRecord_middle _ hq hothers, State.addDefect,
    State.writeDefect_taken (before := before) (after := []) (r := { r with poisoned := true }) rfl rfl hopen hothers]
  have hnew : r.defects.has .splice = false := hclean
  dsimp only
  rw [hnew]
  rfl

/-! ### Mark pulses (R39) -/

/-- The mark window of a record holds a position. -/
def State.marksAt (s : State) (lead : Int) (r : Record) : Bool :=
  decide ((markWindow (s.format r.format) r.birth).1 ≤ lead) && decide (lead ≤ (markWindow (s.format r.format) r.birth).2)

theorem State.markRecord_eq (s : State) (lead : Int) : s.markRecord lead = s.trq.queue.find? (s.marksAt lead) := rfl

theorem State.marksAt_iff (s : State) (lead : Int) (r : Record) :
    s.marksAt lead r = true ↔
      (r.birth : Int) * 4096 + (s.format r.format).nominal - (s.format r.format).half ≤ lead ∧
      lead ≤ (r.birth : Int) * 4096 + (s.format r.format).nominal + (s.format r.format).half := by
  rw [State.marksAt, Bool.and_eq_true, decide_eq_true_eq, decide_eq_true_eq]
  rfl

theorem State.markPulse_outside {lead : Int} {s : State} (width : Option Int) (hline : s.sup.line ≠ .safe)
    (h : s.markRecord lead = none) : s.markPulse lead width = s := by
  unfold State.markPulse
  rw [if_neg hline, h]

/-- The pulse of a record whose mark has been decided is late. -/
theorem State.markPulse_late {lead : Int} {r : Record} {s : State} (width : Option Int) (hline : s.sup.line ≠ .safe)
    (h : s.markRecord lead = some r) (hdecided : ∀ m ∈ s.reg.marks, m.serial ≠ r.serial) :
    s.markPulse lead width = s.bump ctrEdgesLate := by
  have hnone : s.reg.marks.find? (fun m => m.serial == r.serial) = none :=
    List.find?_eq_none.2 fun m hm => by simp [hdecided m hm]
  unfold State.markPulse
  rw [if_neg hline, h]
  dsimp only
  rw [hnone]

/-- The pulse of a record whose mark is pending is its candidate, or one too many. -/
theorem State.markPulse_pending {lead : Int} {r : Record} {s : State} {front back : List PendingMark} {m : PendingMark}
    (width : Option Int) (hline : s.sup.line ≠ .safe) (h : s.markRecord lead = some r)
    (hmarks : s.reg.marks = front ++ m :: back) (hserial : m.serial = r.serial)
    (hothers : ∀ x ∈ front ++ back, x.serial ≠ r.serial) :
    s.markPulse lead width =
      if m.candidate.isSome then s.bump ctrMarksExtra
      else { s with reg := { s.reg with
        marks := front ++ { m with candidate := some ⟨lead, width⟩ } :: back
        openCandidate := if width = none then some lead else s.reg.openCandidate } } := by
  have hfind : s.reg.marks.find? (fun m => m.serial == r.serial) = some m := by
    rw [hmarks]
    exact find?_middle (fun x hx => by simp [hothers x (List.mem_append_left _ hx)]) (by simp [hserial])
  unfold State.markPulse
  rw [if_neg hline, h]
  dsimp only
  rw [hfind]
  dsimp only
  cases m.candidate with
  | some c => rfl
  | none =>
    dsimp only
    rw [hmarks, map_middle (p := fun x : PendingMark => x.serial = r.serial) _ hothers hserial]
    cases width <;> rfl

/-- An open mark pulse's width, by the candidate that awaits it (R39; log 17). -/
theorem State.markWidth_eq {lead : Int} {s : State} (width : Int) (hopen : s.reg.openCandidate = some lead)
    (hline : s.sup.line ≠ .safe) :
    s.markWidth lead width =
      if ∃ m ∈ s.reg.marks, m.candidate = some ⟨lead, none⟩ then
        { s with reg := { s.reg with
          openCandidate := none
          marks := s.reg.marks.map fun m =>
            if m.candidate = some ⟨lead, none⟩ then { m with candidate := some ⟨lead, some width⟩ } else m } }
      else { s with reg := { s.reg with openCandidate := none } }.bump ctrEdgesLate := by
  unfold State.markWidth
  rw [if_neg (not_not.2 hopen)]
  dsimp only
  rw [if_neg hline]
  simp only [List.any_eq_true, beq_iff_eq]

/-! ### Classification and the decision (R40, R41) -/

/-- The first present class a width lies in. -/
theorem Format.classOf_eq {f : Format} {width : Int} {v : Fin 4}
    (hin : ∃ c, f.classes.get v = some c ∧ (c.min : Int) ≤ width ∧ width ≤ c.max)
    (hfirst : ∀ u < v, ¬∃ c, f.classes.get u = some c ∧ (c.min : Int) ≤ width ∧ width ≤ c.max) :
    f.classOf width = some v := by
  have hholds (u : Fin 4) : (match f.classes.get u with
      | none => false
      | some c => decide ((c.min : Int) ≤ width) && decide (width ≤ c.max)) = true ↔
      ∃ c, f.classes.get u = some c ∧ (c.min : Int) ≤ width ∧ width ≤ c.max := by
    cases f.classes.get u <;> simp
  obtain ⟨before, after, hsplit, hbefore⟩ : ∃ before after : List (Fin 4), variants = before ++ v :: after ∧
      ∀ u ∈ before, u < v := by
    revert v
    intro v _ _
    fin_cases v
    · exact ⟨[], [1, 2, 3], rfl, by simp⟩
    · exact ⟨[0], [2, 3], rfl, by decide⟩
    · exact ⟨[0, 1], [3], rfl, by decide⟩
    · exact ⟨[0, 1, 2], [], rfl, by decide⟩
  unfold Format.classOf
  rw [hsplit]
  exact find?_middle (fun u hu => mt (hholds u).1 (hfirst u (hbefore u hu))) ((hholds v).2 hin)

theorem Format.classOf_none {f : Format} {width : Int}
    (h : ∀ v, ¬∃ c, f.classes.get v = some c ∧ (c.min : Int) ≤ width ∧ width ≤ c.max) : f.classOf width = none := by
  refine List.find?_eq_none.2 fun v _ hv => h v ?_
  cases hc : f.classes.get v <;> simp_all

/-- The lock does not touch the queue. -/
@[simp] theorem State.lockMark_trq (error : Option Int) (s : State) : (s.lockMark error).trq = s.trq := by
  have hcorrect (f : RegSettings) (e : Int) (t : State) : (t.correctTrim f e).trq = t.trq := by
    unfold State.correctTrim
    dsimp only
    split
    · rfl
    · split <;> simp
  unfold State.lockMark
  cases s.reg.inForce with
  | none => rfl
  | some f =>
    dsimp only
    cases s.reg.lock with
    | off => rfl
    | holdoff => rfl
    | search => dsimp only; split <;> rfl
    | acquire => dsimp only; split <;> (try split) <;> rfl
    | locked =>
      cases error with
      | some e => exact hcorrect f e _
      | none => dsimp only; split <;> simp

/-- A defect write changes no serial and nothing of REG. -/
theorem State.addDefect_frame (serial : Nat) (reason : Reason) (s : State) :
    (s.addDefect serial reason).trq.queue.map Record.serial = s.trq.queue.map Record.serial ∧
    (s.addDefect serial reason).reg = s.reg := by
  unfold State.addDefect State.writeDefect
  split
  · exact ⟨rfl, rfl⟩
  · split
    · exact ⟨rfl, rfl⟩
    · next r _ _ =>
      cases r.defects.has reason
      · exact ⟨State.writeRecord_serials serial _ s fun _ => rfl, rfl⟩
      · exact ⟨State.writeRecord_serials serial _ s fun _ => rfl, rfl⟩

theorem State.writeMarkDefects_serials (serial : Nat) (f : Format) (o : MarkOutcome) (s : State) :
    (s.writeMarkDefects serial f o).trq.queue.map Record.serial = s.trq.queue.map Record.serial := by
  cases o with
  | missing => exact (s.addDefect_frame serial _).1
  | unreadable => exact (s.addDefect_frame serial _).1
  | read v e =>
    have hwarned : (s.bumpIf (f.warn < e.natAbs) ctrRegWarnings).trq = s.trq := State.bumpIf_trq _ _ _
    have hkept (p : Prop) [Decidable p] (reason : Reason) (t : State) :
        (if p then t.addDefect serial reason else t).trq.queue.map Record.serial = t.trq.queue.map Record.serial := by
      split
      · exact (t.addDefect_frame serial reason).1
      · rfl
    simp only [State.writeMarkDefects]
    rw [hkept, hkept, hwarned]

/-- The defects of a mark that was read (R41): the lock looked at is the one the decision began with. -/
theorem State.writeMarkDefects_read (serial : Nat) (f : Format) (v : Fin 4) (e : Int) (s : State) :
    s.writeMarkDefects serial f (.read v e) =
      let warned := if f.warn < e.natAbs then s.bump ctrRegWarnings else s
      let rejected := if f.reject < e.natAbs then warned.addDefect serial .regError else warned
      if s.reg.lock ≠ .locked ∧ f.acceptUnlocked = false then rejected.addDefect serial .regUnlocked else rejected := by
  have hlock (t : State) : (if f.reject < e.natAbs then t.addDefect serial .regError else t).reg = t.reg := by
    split
    · exact (t.addDefect_frame serial _).2
    · rfl
  have hwarned : (s.bumpIf (f.warn < e.natAbs) ctrRegWarnings) = if f.warn < e.natAbs then s.bump ctrRegWarnings else s := by
    by_cases h : f.warn < e.natAbs <;> simp [State.bumpIf, h]
  have hreg : (if f.warn < e.natAbs then s.bump ctrRegWarnings else s).reg = s.reg := by split <;> rfl
  simp only [State.writeMarkDefects, hwarned, hlock, hreg]

/-- CAM and CHK are told of a decision, in an order left open (R73, R101; log 4). -/
theorem State.announceDecision_found {serial : Nat} {s : State} (h : serial ∈ s.trq.queue.map Record.serial) :
    ∃ r ∈ s.trq.queue, r.serial = serial ∧
      (s.announceDecision serial = (State.camResolve r { s with free := s.free + 1 }).chkResolve r ∨
        s.announceDecision serial = (State.chkResolve r { s with free := s.free + 1 }).camResolve r) := by
  have hsome : (s.findRecord serial).isSome = true := by
    obtain ⟨r, hr, rfl⟩ := List.mem_map.1 h
    exact List.find?_isSome.2 ⟨r, hr, by simp⟩
  obtain ⟨r, hr⟩ := Option.isSome_iff_exists.1 hsome
  obtain ⟨hmem, hserial⟩ := State.findRecord_mem hr
  refine ⟨r, hmem, hserial, ?_⟩
  rw [State.announceDecision, hr]
  exact State.eitherOrder_choice (State.camResolve r) (State.chkResolve r) s

/-- The variant and the error of a mark that was read. -/
def MarkOutcome.reading : MarkOutcome → Option (Fin 4 × Int)
  | .read v e => some (v, e)
  | .missing => none
  | .unreadable => none

theorem MarkOutcome.error_eq (o : MarkOutcome) : o.error = o.reading.map Prod.snd := by cases o <;> rfl

theorem MarkOutcome.variant_eq (o : MarkOutcome) : o.variant = o.reading.map Prod.fst := by cases o <;> rfl

/-- Settles O13: creation by the splice span, a pulse by the record and the mark it meets, a width by its candidate, and
the decision as the lock, the write, the defects and the announcement, each by its own lemma. -/
theorem marksAreKeptAndDecided : Obligations.MarksAreKeptAndDecided := by
  unfold Obligations.MarksAreKeptAndDecided
  intro counted inside
  refine ⟨?_, ?_, ?_, ?_, ?_⟩
  · intro serial pitch key f before s r hq hbefore centre marks
    exact ⟨State.regCreate_clean, fun h => State.regCreate_splice h hq hbefore rfl rfl⟩
  · intro lead width s
    have hinside (r : Record) : s.marksAt lead r = true ↔ inside s lead r := s.marksAt_iff lead r
    refine ⟨fun hsafe => if_pos hsafe, fun hline hnone => ?_, ?_⟩
    · refine State.markPulse_outside width hline ?_
      exact List.find?_eq_none.2 fun r hr => mt (hinside r).1 (hnone r hr)
    · intro before r after hline hq hbefore hr
      have hfound : s.markRecord lead = some r := by
        rw [State.markRecord_eq, hq]
        exact find?_middle (fun x hx => mt (hinside x).1 (hbefore x hx)) ((hinside r).2 hr)
      refine ⟨fun hdecided => State.markPulse_late width hline hfound hdecided, ?_⟩
      intro front m back hmarks hserial hothers
      have hpulse := State.markPulse_pending width hline hfound hmarks hserial hothers
      exact ⟨fun hc => hpulse.trans (if_pos hc), fun hc => hpulse.trans (if_neg (by simp [hc]))⟩
  · intro lead width s ended
    refine ⟨fun h => if_pos h, fun h hsafe => ?_, fun h hline => ⟨fun hnone => ?_, ?_⟩⟩
    · exact (if_neg (not_not.2 h)).trans (if_pos hsafe)
    · rw [State.markWidth_eq width h hline, if_neg (by simpa using hnone)]
      rfl
    · intro front m back hmarks hm hothers
      rw [State.markWidth_eq width h hline,
        if_pos ⟨m, by rw [hmarks]; exact List.mem_append_right _ (List.mem_cons_self ..), hm⟩, hmarks,
        map_middle (p := fun x : PendingMark => x.candidate = some ⟨lead, none⟩) _ hothers hm]
  · intro f birth holds
    refine ⟨rfl, fun _ => rfl, fun lead w => ⟨fun hnone => ?_, fun v hv hfirst => ?_⟩⟩
    · rw [classify, Format.classOf_none hnone]
    · rw [classify, Format.classOf_eq hv hfirst]
      rfl
  · intro m s taken
    refine ⟨fun hnone => State.decideMark_missing (List.find?_eq_none.2 fun r hr => by simp [hnone r hr]), ?_⟩
    intro before r after hq hothers hserial hvariant herror f outcome read locked written unlocked judged
    have hdecide := State.decideMark_found (m := m) (s := s) (hserial ▸ State.findRecord_middle hq hothers)
    have herrors : outcome.error = read.map Prod.snd := outcome.error_eq
    have hvariants : outcome.variant = read.map Prod.fst := outcome.variant_eq
    have hlocked : (s.dropMark m.serial).lockMark outcome.error = locked := by rw [herrors]; rfl
    have hlockedQueue : locked.trq.queue = before ++ r :: after := by
      show (taken.lockMark _).trq.queue = _
      rw [State.lockMark_trq]
      exact hq
    have hwritten : locked.writeMark m.serial outcome = written := by
      rw [State.writeMark, ← hserial, State.writeRecord_middle _ hlockedQueue hothers]
      by_cases hopen : r.final = none
      · simp only [written, hvariant, herror, hopen, hvariants, herrors, Option.isNone_none, and_self, if_true]
      · simp only [written, Option.isNone_iff_eq_none, hopen, and_false, if_false]
    have hjudged : (s.dropMark m.serial).judgeMark m.serial f outcome = judged := by
      rw [State.judgeMark, hlocked, hwritten]
      show written.writeMarkDefects m.serial f outcome = judged
      simp only [judged]
      cases outcome with
      | missing => rfl
      | unreadable => rfl
      | read v e => exact State.writeMarkDefects_read m.serial f v e written
    have hserials : m.serial ∈ judged.trq.queue.map Record.serial := by
      rw [← hjudged, State.judgeMark, hlocked, State.writeMarkDefects_serials, hwritten]
      show m.serial ∈ (before ++ (if r.final = none then _ else r) :: after).map Record.serial
      rw [List.map_append, List.map_cons]
      refine List.mem_append_right _ (List.mem_cons.2 (.inl ?_))
      split <;> exact hserial.symm
    obtain ⟨r', hmem, hr', htold⟩ := State.announceDecision_found hserials
    have hannounced : s.decideMark m = judged.announceDecision m.serial :=
      hdecide.trans (congrArg (State.announceDecision m.serial) hjudged)
    exact ⟨r', hmem, hr', htold.imp hannounced.trans hannounced.trans⟩

end Sys2Proof.Machine

/-! ## Settled: the edges CAM issues, holds and merges -/

namespace Sys2Proof.Machine

/-! ### Node counts, leads and dwells (R75 to R77) -/

/-- A node count is its firing position's, modulo 65,536. -/
theorem State.nodeCount_spec (s : State) (position : Int) :
    s.nodeCount position < 65536 ∧
      ((s.nodeCount position : Int) - (position - s.pos.raw + s.pos.lastCount)) % 65536 = 0 := by
  unfold State.nodeCount
  omega

theorem rawLead_bounds (speed delay : Nat) :
    2 * rawLead speed delay * 1000000 ≤ 2 * (speed * delay) + 1000000 ∧
      2 * (speed * delay) < 2 * rawLead speed delay * 1000000 + 1000000 := by
  unfold rawLead
  omega

/-- The counts of a dwell, rounded up. -/
def dwellCounts (dwellMin speed : Nat) : Nat := (dwellMin * speed + 999999) / 1000000

theorem dwellCounts_bounds (dwellMin speed : Nat) :
    dwellMin * speed ≤ dwellCounts dwellMin speed * 1000000 ∧
      dwellCounts dwellMin speed * 1000000 < dwellMin * speed + 1000000 := by
  unfold dwellCounts
  omega

/-! ### The counters of an issued edge (R75, R77, R83) -/

theorem State.bumpIf_counter (p : Prop) [Decidable p] (c k : Fin 38) (s : State) :
    (s.bumpIf (decide p) c).sup.counters.get k =
      if k = c ∧ p then saturate (s.sup.counters.get c) else s.sup.counters.get k := by
  by_cases hp : p
  · simp only [hp, decide_true, and_true]
    exact updateAt_get s.sup.counters c k saturate
  · simp only [hp, decide_false, and_false, if_false]
    rfl

/-- An issued edge counts a clamped lead and a late command, each in its own counter, and nothing else. -/
theorem State.edgeCounters_get (s : State) (c : Fin 24) (position : Int) (k : Fin 38) :
    (s.edgeCounters c position).get k =
      if k = ctrLeadClamps ∧ 2047 < rawLead s.pos.s (s.channel c).delay ∨ k = ctrCommandsLate ∧ position < s.pos.held then
        saturate (s.sup.counters.get k) else s.sup.counters.get k := by
  have hclamped : leadClamped s.pos.s (s.channel c).delay = decide (2047 < rawLead s.pos.s (s.channel c).delay) := rfl
  have hapart : ctrLeadClamps ≠ ctrCommandsLate := by decide
  rw [State.edgeCounters, State.countEdge, hclamped, State.bumpIf_counter, State.bumpIf_counter, State.bumpIf_counter]
  by_cases hlead : k = ctrLeadClamps
  · subst hlead
    simp [hapart]
  · by_cases hlate : k = ctrCommandsLate
    · subst hlate
      simp [hapart.symm]
    · simp [hlead, hlate]

/-! ### The issue of an edge (R80, R81, R87) -/

/-- A timed frame with room joins the outbound queue, whatever has been counted. -/
theorem State.placeTimed_room (c : Fin 24) (on : Bool) (position : Int) (serial : Nat) (counters : Vector Nat 38) {s : State}
    (h : s.rif.outbound.length < 64) :
    State.placeTimed c on position serial { s with sup := { s.sup with counters := counters } } =
      { s with sup := { s.sup with counters := counters }, rif := s.rif.pushOutbound (s.timed c on position serial) } :=
  State.placeOutbound_room (s.timed c on position serial) { s with sup := { s.sup with counters := counters } } h

/-- An issued ON with room: the counters, the frame and the channel (R80). -/
theorem State.issueOn_room (c : Fin 24) (w : Window) (on off : Nat) (s : State) (h : s.rif.outbound.length < 64) :
    s.issueOn c w on off =
      { s with
        sup := { s.sup with counters := s.edgeCounters c (s.onFiring c w.target on) }
        rif := s.rif.pushOutbound (s.timed c true (s.onFiring c w.target on) w.serial)
        cam := updateAt s.cam c fun x => gateZero (s.channel c).function
          { x with schedule := x.schedule.tail, level := .on, activeOff := some (s.activeOf c w on off) } } := by
  have hissued : s.issueOn c w on off =
      ((s.countEdge c (s.onFiring c w.target on)).placeTimed c true (s.onFiring c w.target on) w.serial).setCam c fun x =>
        gateZero (s.channel c).function
          { x with schedule := x.schedule.tail, level := .on, activeOff := some (s.activeOf c w on off) } := rfl
  rw [hissued, State.countEdge_eq, State.placeTimed_room c true _ _ _ h]
  rfl

theorem gateZero_eq (fn : ActFunction) (x : CamChannel) :
    gateZero fn x = ⟨x.schedule, x.activeOff, x.level, if fn = .gate then 0 else x.merges⟩ := by
  unfold gateZero
  split <;> rfl

/-- The channel an edge changes, and the others. -/
theorem State.camChannel_updateAt {s t : State} {c : Fin 24} {f : CamChannel → CamChannel} (h : t.cam = updateAt s.cam c f) :
    t.camChannel c = f (s.camChannel c) ∧ ∀ d, d ≠ c → t.camChannel d = s.camChannel d :=
  ⟨State.camChannel_of_cam h, fun d hd => by rw [State.camChannel, h, updateAt_get, if_neg hd]; rfl⟩

/-! ### Held, merged and not fired (R81, R82) -/

/-- The scheduled head window that an active OFF is held for (R81). -/
theorem State.takeOff_partner (c : Fin 24) (a : ActiveOff) (s : State) :
    let partner := ∃ w on off, (s.camChannel c).schedule.head? = some w ∧ w.angles = some (on, off) ∧
      s.onFiring c w.target on ≤ s.offFiring c a + (s.channel c).mergeGap
    (partner → s.takeOff c a = s.setCam c fun x => { x with activeOff := some { a with held := true } }) ∧
    (¬partner → s.takeOff c a = s.issueOff c a) := by
  intro partner
  have htest : (match (s.camChannel c).schedule with
      | ⟨_, _, target, some (on, _)⟩ :: _ => s.mergeTest c a target on
      | _ => false) = true ↔ partner := by
    show _ ↔ ∃ w on off, (s.camChannel c).schedule.head? = some w ∧ _
    rcases (s.camChannel c).schedule with _ | ⟨⟨serial, birth, target, angles⟩, rest⟩
    · simp
    · rcases angles with _ | ⟨on, off⟩
      · simp
      · simp [State.mergeTest]
  exact ⟨fun h => if_pos (htest.2 h), fun h => if_neg (mt htest.1 h)⟩

theorem State.fire_active {c : Fin 24} {a : ActiveOff} {s : State} (w : Window) (on off : Nat)
    (h : (s.camChannel c).activeOff = some a) :
    s.fire c w on off = if s.mergeTest c a w.target on then s.merge c a w on off
      else (s.issueOff c a).issueOn c w on off := by
  unfold State.fire
  rw [h]

theorem State.merge_eq (c : Fin 24) (a : ActiveOff) (w : Window) (on off : Nat) (s : State) :
    s.merge c a w on off = { s with cam := s.cam.set c { s.camChannel c with
      schedule := (s.camChannel c).schedule.tail
      activeOff := some ⟨w.serial, if on < off then w.target else w.target + 1, off, a.minOff, false⟩
      merges := if (s.channel c).function = .gate then (s.camChannel c).merges + 1 else (s.camChannel c).merges } } := by
  unfold State.merge
  simp only [beq_iff_eq]
  rfl

theorem State.dropHead_activeOff (c : Fin 24) (s : State) :
    ((s.dropHead c).camChannel c).activeOff = (s.camChannel c).activeOff := by
  rw [State.dropHead, State.setCam_same]

theorem State.noFire_none {c : Fin 24} {s : State} (h : (s.camChannel c).activeOff = none) :
    s.noFire c = s.dropHead c := by
  unfold State.noFire
  dsimp only
  rw [State.dropHead_activeOff, h]

theorem State.noFire_active {c : Fin 24} {a : ActiveOff} {s : State} (h : (s.camChannel c).activeOff = some a) :
    s.noFire c = if a.held then (s.dropHead c).issueOff c a else s.dropHead c := by
  unfold State.noFire
  dsimp only
  rw [State.dropHead_activeOff, h]

/-- Settles O54: both issues by their room and the counters of their edge, then holding, merging and not firing. -/
theorem edgesAreIssuedHeldAndMerged : Obligations.EdgesAreIssuedHeldAndMerged := by
  have hapart : ctrLeadClamps ≠ ctrCommandsLate ∧ ctrDwellExtends ≠ ctrLeadClamps ∧ ctrDwellExtends ≠ ctrCommandsLate := by
    decide
  obtain ⟨hlc, hdl, hdc⟩ := hapart
  refine ⟨?_, ?_, ?_⟩
  · intro c w on off s hroom hbusy
    refine ⟨rawLead s.pos.s (s.channel c).delay, dwellCounts (s.channel c).dwellMin s.pos.s, rawLead_bounds _ _,
      dwellCounts_bounds _ _, ?_⟩
    intro position t
    have hissued := s.issueOn_room c w on off hroom
    obtain ⟨hown, hothers⟩ := State.camChannel_updateAt (s.issueOn_cam c w on off)
    obtain ⟨hcount, hmod⟩ := s.nodeCount_spec position
    have hcounter (k : Fin 38) : t.sup.counters.get k = (s.edgeCounters c position).get k := by
      show (s.issueOn c w on off).sup.counters.get k = _
      rw [hissued]
      rfl
    refine ⟨hown.trans ((gateZero_eq _ _).trans rfl), hothers, ⟨s.nodeCount position, hcount, hmod, ?_⟩, ?_, ?_, ?_⟩
    · show (s.issueOn c w on off).rif = _
      rw [hissued]
      exact Rif.pushOutbound_busy _ _ hbusy
    · rw [hcounter, State.edgeCounters_get]
      simp [hlc]
    · rw [hcounter, State.edgeCounters_get]
      simp [hlc.symm]
    · show s.issueOn c w on off = { s with
        cam := (s.issueOn c w on off).cam, rif := (s.issueOn c w on off).rif
        sup := { s.sup with counters := (s.issueOn c w on off).sup.counters } }
      rw [hissued]
  · intro c a s hroom hbusy lead byAngle position counter t
    have hissued := s.issueOff_room c a hroom
    obtain ⟨hown, hothers⟩ := State.camChannel_updateAt (s.issueOff_cam c a)
    obtain ⟨hcount, hmod⟩ := s.nodeCount_spec position
    have hcounter (k : Fin 38) : t.sup.counters.get k =
        (State.edgeCounters (s.bumpIf (decide (byAngle < a.minOff)) ctrDwellExtends) c position).get k := by
      show (s.issueOff c a).sup.counters.get k = _
      rw [hissued]
      rfl
    have hextends (k : Fin 38) := s.bumpIf_counter (byAngle < a.minOff) ctrDwellExtends k
    have hpos : (s.bumpIf (decide (byAngle < a.minOff)) ctrDwellExtends).pos = s.pos := State.bumpIf_pos _ _ _
    have hchannel : (s.bumpIf (decide (byAngle < a.minOff)) ctrDwellExtends).channel c = s.channel c := by
      rw [State.channel, State.bumpIf_store]
      rfl
    refine ⟨hown.trans ((gateZero_eq _ _).trans rfl), hothers, ⟨s.nodeCount position, hcount, hmod, ?_⟩, ?_, ?_, ?_, ?_⟩
    · show (s.issueOff c a).rif = _
      rw [hissued]
      exact Rif.pushOutbound_busy _ _ hbusy
    · rw [hcounter, State.edgeCounters_get, hextends]
      simp [hdl, hdc, counter]
    · rw [hcounter, State.edgeCounters_get, hextends, hpos, hchannel]
      simp [hlc, hdl.symm, counter]
      rfl
    · rw [hcounter, State.edgeCounters_get, hextends, hpos, hchannel]
      simp [hlc.symm, hdc.symm, counter]
    · show s.issueOff c a = { s with
        cam := (s.issueOff c a).cam, rif := (s.issueOff c a).rif
        sup := { s.sup with counters := (s.issueOff c a).sup.counters } }
      rw [hissued]
  · intro c s x becomes within
    refine ⟨fun a => s.takeOff_partner c a, fun w on off => ⟨fun h => ?_, fun a h => ⟨fun hwithin => ?_, fun hwithin => ?_⟩⟩,
      fun h => ?_, fun a h hheld => ?_⟩
    · unfold State.fire
      rw [show (s.camChannel c).activeOff = none from h]
    · rw [State.fire_active w on off h]
      exact (if_pos (decide_eq_true hwithin)).trans (s.merge_eq c a w on off)
    · rw [State.fire_active w on off h]
      exact if_neg (mt of_decide_eq_true hwithin)
    · obtain hnone | ⟨a, ha⟩ := Option.eq_none_or_eq_some (s.camChannel c).activeOff
      · exact State.noFire_none hnone
      · exact (State.noFire_active ha).trans (if_neg (by rw [h a ha]; exact Bool.false_ne_true))
    · exact (State.noFire_active h).trans (if_pos hheld)

end Sys2Proof.Machine

/-! ## Settled: the windows CAM schedules for a record, and the steps of the advance test -/

namespace Sys2Proof.Machine

/-! ### Programs (R24, R72) -/

theorem Program.present_iff (p : Program) : p.present = true ↔ p.windows ≠ [] ∨ p.checks ≠ [] := by
  simp [Program.present]

theorem Program.window?_channel {p : Program} {c : Fin 24} {w : WindowEntry} (h : p.window? c = some w) : w.channel = c := by
  simpa using List.find?_some h

theorem Program.present_of_window {p : Program} {c : Fin 24} (h : (p.window? c).isSome = true) : p.present = true := by
  refine p.present_iff.2 (.inl fun hnone => ?_)
  rw [Program.window?, hnone] at h
  exact absurd h Bool.false_ne_true

theorem variants_mem (v : Fin 4) : v ∈ variants := by
  fin_cases v <;> decide

theorem Format.presentVariants_mem {f : Format} {v : Fin 4} : v ∈ f.presentVariants ↔ (f.program v).present = true := by
  simp [Format.presentVariants, variants_mem]

theorem Format.hasWindow_iff (f : Format) (c : Fin 24) :
    f.hasWindow c = true ↔ ∃ v, ((f.program v).window? c).isSome = true := by
  simp only [Format.hasWindow, List.any_eq_true, Format.presentVariants_mem]
  exact ⟨fun ⟨v, _, h⟩ => ⟨v, h⟩, fun ⟨v, h⟩ => ⟨v, Program.present_of_window h, h⟩⟩

/-- The common entry of a channel is the one every present program has, there being one. -/
theorem Format.commonWindow_iff (f : Format) (c : Fin 24) (w : WindowEntry) :
    f.commonWindow c = some w ↔
      f.presentVariants ≠ [] ∧ ∀ v ∈ f.presentVariants, (f.program v).window? c = some w := by
  unfold Format.commonWindow
  rcases f.presentVariants with _ | ⟨v, rest⟩
  · simp
  · cases hv : (f.program v).window? c with
    | none => simp [hv]
    | some x =>
      simp only [List.all_eq_true, beq_iff_eq, ne_eq, reduceCtorEq, not_false_eq_true, true_and, List.forall_mem_cons, hv]
      constructor
      · intro h
        split at h
        · next hall => exact ⟨h, fun u hu => (hall u hu).trans h⟩
        · exact absurd h (by simp)
      · rintro ⟨hx, hrest⟩
        rw [if_pos fun u hu => (hrest u hu).trans hx.symm]
        exact hx

/-- A window's channel is its entry's, so an entry is told by its angles. -/
theorem Format.commonWindow_angles {f : Format} {c : Fin 24} {on off : Nat} (hwindow : f.hasWindow c = true) :
    (f.commonWindow c).map (fun w => (w.on, w.off)) = some (on, off) ↔
      ∀ v, (f.program v).windows ≠ [] ∨ (f.program v).checks ≠ [] → (f.program v).window? c = some ⟨c, on, off⟩ := by
  have hentry : (f.commonWindow c).map (fun w => (w.on, w.off)) = some (on, off) ↔
      f.commonWindow c = some ⟨c, on, off⟩ := by
    constructor
    · intro h
      obtain ⟨⟨channel, on', off'⟩, hw, hangles⟩ := Option.map_eq_some_iff.1 h
      obtain ⟨hne, hall⟩ := (f.commonWindow_iff c _).1 hw
      obtain ⟨v, hv⟩ := List.exists_mem_of_ne_nil _ hne
      obtain rfl : channel = c := Program.window?_channel (hall v hv)
      simp_all
    · intro h
      rw [h]
      rfl
  have hne : f.presentVariants ≠ [] := by
    obtain ⟨v, hv, -⟩ := List.any_eq_true.1 hwindow
    exact List.ne_nil_of_mem hv
  rw [hentry, f.commonWindow_iff]
  simp only [Format.presentVariants_mem, Program.present_iff]
  exact ⟨fun h => h.2, fun h => ⟨hne, h⟩⟩

theorem alwaysFires_iff (fn : ActFunction) :
    fn.alwaysFires = true ↔ fn = .knife ∨ fn = .fold ∨ fn = .gate ∨ fn = .finger := by
  cases fn <;> simp [ActFunction.alwaysFires]

/-! ### The channels, each changed once and each tested once -/

/-- A change of every channel is one change of the cam state. -/
theorem foldl_setCam (f : Fin 24 → CamChannel → CamChannel) (l : List (Fin 24)) (s : State) :
    l.foldl (fun (t : State) c => t.setCam c (f c)) s =
      { s with cam := l.foldl (fun v c => updateAt v c (f c)) s.cam } := by
  induction l generalizing s with
  | nil => rfl
  | cons c rest ih => exact ih (s.setCam c (f c))

/-- Every channel changed, each by its own function. -/
def State.setCams (f : Fin 24 → CamChannel → CamChannel) (s : State) : State :=
  { s with cam := channelIds.foldl (fun v c => updateAt v c (f c)) s.cam }

theorem State.setCams_camChannel (f : Fin 24 → CamChannel → CamChannel) (s : State) (c : Fin 24) :
    (s.setCams f).camChannel c = f c (s.camChannel c) :=
  (foldl_updateAt_get f channelIds (List.nodup_finRange 24) s.cam c).trans (if_pos (channelIds_mem c))

theorem State.camOrder_nodup (s : State) : s.camOrder.Nodup := by
  refine List.Nodup.append ((List.nodup_finRange 24).filter _) ((List.nodup_finRange 24).filter _) fun c hgate hother => ?_
  have hg := (List.mem_filter.1 hgate).2
  have ho := (List.mem_filter.1 hother).2
  simp_all

theorem State.camOrder_mem (s : State) (c : Fin 24) : c ∈ s.camOrder := by
  rw [State.camOrder, List.mem_append, List.mem_filter, List.mem_filter]
  by_cases h : (s.channel c).function = .gate
  · exact .inl ⟨channelIds_mem c, by simp [h]⟩
  · exact .inr ⟨channelIds_mem c, by simp [h]⟩

/-- What a record's creation does to a channel's schedule (R72). -/
def State.receive? (s : State) (r : Record) (c : Fin 24) (x : CamChannel) : CamChannel :=
  match s.windowFor r c with
  | some w => { x with schedule := x.schedule ++ [w] }
  | none => x

theorem State.camCreate_eq (r : Record) (s : State) :
    s.camCreate r = (s.camOrder.filter fun c => (s.windowFor r c).isSome).foldl State.testChannel
      (s.setCams (s.receive? r)) := by
  have hone (t : State) (c : Fin 24) : (match s.windowFor r c with
      | some w => t.setCam c fun x => { x with schedule := x.schedule ++ [w] }
      | none => t) = t.setCam c (s.receive? r c) := by
    unfold State.receive?
    cases s.windowFor r c with
    | some w => rfl
    | none => exact congrArg (fun v => { t with cam := v }) (updateAt_same t.cam c).symm
  have hfold : channelIds.foldl (fun (t : State) c => match s.windowFor r c with
      | some w => t.setCam c fun x => { x with schedule := x.schedule ++ [w] }
      | none => t) s = s.setCams (s.receive? r) := by
    rw [funext₂ hone]
    exact foldl_setCam _ _ _
  exact congrArg (List.foldl State.testChannel · (s.camOrder.filter fun c => (s.windowFor r c).isSome)) hfold

theorem State.camResolve_eq (r : Record) (s : State) :
    s.camResolve r = (s.camOrder.filter (s.heldFor r.serial)).foldl State.testChannel
      (s.setCams fun c x => { x with
        schedule := x.schedule.filterMap (resolveWindow ((s.format r.format).program r.selected) c r.serial) }) := by
  unfold State.camResolve
  simp only [foldl_setCam]
  rfl

/-! ### The steps on one channel (R78) -/

theorem State.camStep_on {c : Fin 24} {w : Window} {on off : Nat} {s : State}
    (hhead : (s.camChannel c).schedule.head? = some w) (hangles : w.angles = some (on, off))
    (hdue : s.due (s.onFiring c w.target on) = true) : s.camStep c = some (s.takeOn c w on off) := by
  obtain ⟨rest, hschedule⟩ := List.head?_eq_some_iff.1 hhead
  unfold State.camStep
  rw [hschedule]
  dsimp only
  rw [hangles]
  exact if_pos hdue

/-- Without a due ON the active OFF decides. -/
theorem State.camStep_off {c : Fin 24} {s : State}
    (h : ∀ w ∈ (s.camChannel c).schedule.head?, ∀ on off, w.angles = some (on, off) →
      ¬s.due (s.onFiring c w.target on) = true) : s.camStep c = s.offStep c := by
  unfold State.camStep
  rcases hschedule : (s.camChannel c).schedule with _ | ⟨w, rest⟩
  · rfl
  · dsimp only
    rw [hschedule] at h
    cases hangles : w.angles with
    | none => rfl
    | some angles => exact if_neg (h w rfl angles.1 angles.2 hangles)

theorem State.offStep_some {c : Fin 24} {a : ActiveOff} {s : State} (ha : (s.camChannel c).activeOff = some a) :
    s.offStep c = if !a.held && s.due (s.offFiring c a) then some (s.takeOff c a) else none := by
  unfold State.offStep
  rw [ha]

theorem State.offStep_none {c : Fin 24} {s : State} (ha : (s.camChannel c).activeOff = none) : s.offStep c = none := by
  unfold State.offStep
  rw [ha]

/-! ### The ON edge by function (R79, R85) -/

theorem State.takeOn_plain {c : Fin 24} {s : State} (w : Window) (on off : Nat)
    (h : (s.channel c).function = .gum ∨ (s.channel c).function = .patch ∨ (s.channel c).function = .general) :
    s.takeOn c w on off =
      if (s.channel c).policy = .skipReject ∧ s.isReject w.serial then (s.writeSuppressed w.serial c).noFire c
      else s.fire c w on off := by
  unfold State.takeOn
  rcases h with h | h | h <;> rw [h]

/-- A channel joins the suppressed list of a record once, and none of a settled one (R62). -/
theorem State.writeSuppressed_middle {before after : List Record} {r : Record} {s : State} (c : Fin 24)
    (hq : s.trq.queue = before ++ r :: after) (hothers : ∀ x ∈ before ++ after, x.serial ≠ r.serial) :
    s.writeSuppressed r.serial c = { s with trq := { s.trq with queue := before ++
      (if r.final = none ∧ c ∉ r.suppressed then { r with suppressed := r.suppressed ++ [c] } else r) :: after } } := by
  rw [State.writeSuppressed, State.writeRecord_middle _ hq hothers]
  have hrecord : (if r.final.isSome then r else { r with suppressed := appendNew r.suppressed c }) =
      if r.final = none ∧ c ∉ r.suppressed then { r with suppressed := r.suppressed ++ [c] } else r := by
    cases hfinal : r.final with
    | some f => simp
    | none => by_cases hc : c ∈ r.suppressed <;> simp [appendNew, hc, hfinal.symm]
  rw [hrecord]

theorem Record.batchEnd_iff (r : Record) : r.batchEnd = true ↔ ∃ x, r.slot = some x ∧ x.batchEnd = true := by
  cases h : r.slot <;> simp [Record.batchEnd, h]

/-- Settles O35: creation and resolution as one change of every channel followed by the tests of those they touch, then
the two steps and the ON edge by its function. -/
theorem windowsAreScheduledAndTaken : Obligations.WindowsAreScheduledAndTaken := by
  unfold Obligations.WindowsAreScheduledAndTaken
  refine ⟨?_, ?_, ?_⟩
  · intro r s f present receives always
    have hreceives (c : Fin 24) : (s.channel c).source = .cam ∧ f.hasWindow c = true ↔ receives c :=
      and_congr_right fun _ => f.hasWindow_iff c
    have hsome (c : Fin 24) : (s.windowFor r c).isSome = true ↔ receives c := by
      rw [← hreceives]
      by_cases h : (s.channel c).source = .cam ∧ f.hasWindow c = true
      · exact iff_of_true (by rw [State.windowFor, if_pos h]; rfl) h
      · exact iff_of_false (by rw [State.windowFor, if_neg h]; exact Bool.false_ne_true) h
    refine ⟨s.setCams (s.receive? r), _, s.camCreate_eq r, s.camOrder_nodup.filter _, fun c => ?_, rfl, fun c hc => ?_,
      fun c hc => ?_⟩
    · rw [List.mem_filter, hsome]
      exact and_iff_right (s.camOrder_mem c)
    · have hnone : s.windowFor r c = none := Option.not_isSome_iff_eq_none.1 (mt (hsome c).1 hc)
      rw [State.setCams_camChannel, State.receive?, hnone]
    · have hchannel := (hreceives c).2 hc
      have hwindow : s.windowFor r c = some ⟨r.serial, r.birth, r.birth + (s.channel c).offset,
          if (s.channel c).policy = .fireAlways ∨ (s.channel c).function.alwaysFires then
            (f.commonWindow c).map fun w => (w.on, w.off) else none⟩ := if_pos hchannel
      refine ⟨_, by rw [State.setCams_camChannel, State.receive?, hwindow], fun on off => ?_⟩
      have halways : (s.channel c).policy = .fireAlways ∨ (s.channel c).function.alwaysFires = true ↔ always c :=
        or_congr_right (alwaysFires_iff _)
      by_cases h : always c
      · rw [if_pos (halways.2 h), and_iff_right h]
        exact Format.commonWindow_angles hchannel.2
      · rw [if_neg (mt halways.1 h)]
        exact iff_of_false (by simp) fun h' => h h'.1
  · intro r s p
    have hselected : (s.format r.format).program r.selected = p := by
      show _ = (s.format r.format).program (match r.variant with | some v => v | none => 0)
      rw [Record.selected]
      cases r.variant <;> rfl
    have hheld (c : Fin 24) : s.heldFor r.serial c = true ↔
        ∃ w ∈ (s.camChannel c).schedule, w.serial = r.serial ∧ w.angles = none := by
      simp [State.heldFor, List.any_eq_true]
    refine ⟨_, _, s.camResolve_eq r, s.camOrder_nodup.filter _, fun c => ?_, rfl, fun c => ?_⟩
    · rw [List.mem_filter, hheld]
      exact and_iff_right (s.camOrder_mem c)
    · rw [State.setCams_camChannel, hselected]
      have hresolve : resolveWindow p c r.serial = fun w => if w.serial = r.serial ∧ w.angles = none then
          (p.window? c).map fun e => { w with angles := some (e.on, e.off) } else some w :=
        funext fun w => by simp only [resolveWindow, Option.isNone_iff_eq_none]
      rw [hresolve]
  · intro c s lead onDue offDue
    have hon (target on : Nat) : s.due (s.onFiring c target on) = true ↔
        (target * 4096 + on : Int) - lead - 256 ≤ s.pos.held := decide_eq_true_iff
    have hoff (a : ActiveOff) : s.due (s.offFiring c a) = true ↔ offDue a := decide_eq_true_iff
    refine ⟨fun w on off hhead hdue hangles => ?_, fun hnot => ?_, fun w on off => ?_⟩
    · refine State.camStep_on hhead hangles ((hon _ _).2 ?_)
      obtain ⟨on', off', hangles', hdue'⟩ := hdue
      have hsame := hangles.symm.trans hangles'
      simp only [Option.some.injEq, Prod.mk.injEq] at hsame
      rw [hsame.1]
      exact hdue'
    · have hstep : s.camStep c = s.offStep c :=
        State.camStep_off fun w hw on off hangles hdue => hnot w hw ⟨on, off, hangles, (hon _ _).1 hdue⟩
      rw [hstep]
      refine ⟨fun a ha hheld hdue => ?_, fun hidle => ?_⟩
      · rw [State.offStep_some ha, hheld, (hoff a).2 hdue]
        rfl
      · obtain hnone | ⟨a, ha⟩ := Option.eq_none_or_eq_some (s.camChannel c).activeOff
        · exact State.offStep_none hnone
        · rw [State.offStep_some ha]
          refine if_neg fun h => ?_
          rw [Bool.and_eq_true, hoff] at h
          rcases hidle a ha with hheld | hnever
          · rw [hheld] at h
            exact absurd h.1 (by decide)
          · exact hnever h.2
    · refine ⟨fun h => ?_, fun h => ?_, fun h => ?_, fun h => ?_⟩
      · unfold State.takeOn
        rcases h with h | h <;> rw [h]
      · have hplain := State.takeOn_plain w on off h
        refine ⟨fun hpolicy => hplain.trans (if_neg fun h' => hpolicy h'.1), ?_⟩
        intro before r after hskips hq hserial hothers
        rw [← hserial] at hothers
        have hreject : s.isReject w.serial = r.reject := by
          rw [State.isReject, ← hserial, State.findRecord_middle hq hothers]
        refine ⟨fun hclean => hplain.trans (if_neg fun h' => ?_), fun hrejected => hplain.trans ?_⟩
        · exact absurd ((hreject.symm.trans h'.2).symm.trans hclean) (by decide)
        · rw [if_pos ⟨hskips, hreject.trans hrejected⟩, ← hserial, State.writeSuppressed_middle c hq hothers]
      · intro before r after hq hserial hothers
        rw [← hserial] at hothers
        have hends : s.endsBatch w.serial = r.batchEnd := by
          rw [State.endsBatch, ← hserial, State.findRecord_middle hq hothers]
        have hfinger : s.takeOn c w on off = if s.endsBatch w.serial then s.fire c w on off else s.noFire c := by
          unfold State.takeOn
          rw [h]
        rw [← r.batchEnd_iff, ← hends]
        exact ⟨fun hlast => hfinger.trans (if_pos hlast), fun hnot => hfinger.trans (if_neg hnot)⟩
      · unfold State.takeOn
        rw [h]

end Sys2Proof.Machine

/-! ## Settled: checks opened, resolved and judged -/

namespace Sys2Proof.Machine

/-! ### The checks a record opens (R100) -/

theorem foldl_setChk (f : Fin 16 → ChkInput → ChkInput) (l : List (Fin 16)) (s : State) :
    l.foldl (fun (t : State) i => t.setChk i (f i)) s =
      { s with chk := l.foldl (fun v i => updateAt v i (f i)) s.chk } := by
  induction l generalizing s with
  | nil => rfl
  | cons i rest ih => exact ih (s.setChk i (f i))

/-- What a record's creation does to an input's checks (R100). -/
def State.open? (s : State) (r : Record) (i : Fin 16) (x : ChkInput) : ChkInput :=
  match s.pendingCheckFor r i with
  | some p => { x with pending := x.pending ++ [p] }
  | none => x

theorem State.chkCreate_eq (r : Record) (s : State) :
    s.chkCreate r = { s with chk := inputIds.foldl (fun v i => updateAt v i (s.open? r i)) s.chk } := by
  have hone (t : State) (i : Fin 16) : (match s.pendingCheckFor r i with
      | some p => t.setChk i fun x => { x with pending := x.pending ++ [p] }
      | none => t) = t.setChk i (s.open? r i) := by
    unfold State.open?
    cases s.pendingCheckFor r i with
    | some p => rfl
    | none => exact congrArg (fun v => { t with chk := v }) (updateAt_same t.chk i).symm
  have hfold : inputIds.foldl (fun (t : State) i => match s.pendingCheckFor r i with
      | some p => t.setChk i fun x => { x with pending := x.pending ++ [p] }
      | none => t) s = { s with chk := inputIds.foldl (fun v i => updateAt v i (s.open? r i)) s.chk } := by
    rw [funext₂ hone]
    exact foldl_setChk _ _ _
  exact hfold

theorem State.chkCreate_chkInput (r : Record) (s : State) (i : Fin 16) :
    (s.chkCreate r).chkInput i = s.open? r i (s.chkInput i) := by
  have hget (f : Fin 16 → ChkInput → ChkInput) (v : Vector ChkInput 16) :=
    foldl_updateAt_get f inputIds (List.nodup_finRange 16) v i
  rw [State.chkCreate_eq]
  exact (hget _ s.chk).trans (if_pos (inputIds_mem i))

theorem Program.present_of_check {p : Program} {i : Fin 16} {k : CheckEntry} (h : p.check? i = some k) :
    p.present = true := by
  refine p.present_iff.2 (.inr fun hnone => ?_)
  rw [Program.check?, hnone] at h
  exact absurd h (by simp)

/-- The alternatives of a record's check on an input, one for each program with an entry (R100). -/
def Format.alternativesAt (f : Format) (target : Nat) (i : Fin 16) : List Alternative :=
  f.presentVariants.filterMap fun v => ((f.program v).check? i).map (alternativeOf target v)

theorem Format.alternativesAt_mem {f : Format} {target : Nat} {i : Fin 16} {a : Alternative} :
    a ∈ f.alternativesAt target i ↔ ∃ v k, (f.program v).check? i = some k ∧ a = alternativeOf target v k := by
  simp only [Format.alternativesAt, List.mem_filterMap, Format.presentVariants_mem, Option.map_eq_some_iff]
  constructor
  · rintro ⟨v, -, k, hk, rfl⟩
    exact ⟨v, k, hk, rfl⟩
  · rintro ⟨v, k, hk, rfl⟩
    exact ⟨v, Program.present_of_check hk, k, hk, rfl⟩

theorem Format.alternativesAt_variants (f : Format) (target : Nat) (i : Fin 16) :
    ((f.alternativesAt target i).map Alternative.variant).Nodup := by
  have hdistinct : f.presentVariants.Nodup := (show variants.Nodup by decide).filter _
  rw [Format.alternativesAt, List.Nodup, List.pairwise_map, List.pairwise_filterMap]
  refine hdistinct.imp fun {v u} hne a ha b hb => ?_
  obtain ⟨k, -, rfl⟩ := Option.map_eq_some_iff.1 ha
  obtain ⟨l, -, rfl⟩ := Option.map_eq_some_iff.1 hb
  exact hne

theorem State.pendingCheckFor_eq (s : State) (r : Record) (i : Fin 16) :
    s.pendingCheckFor r i =
      if (s.format r.format).alternativesAt (r.birth + (s.input i).offset) i = [] then none
      else some ⟨r.serial, r.birth, r.birth + (s.input i).offset, false,
        (s.format r.format).alternativesAt (r.birth + (s.input i).offset) i⟩ := by
  show (match (s.format r.format).alternativesAt (r.birth + (s.input i).offset) i with
    | [] => none
    | alternatives => some (PendingCheck.mk r.serial r.birth (r.birth + (s.input i).offset) false alternatives)) = _
  rcases (s.format r.format).alternativesAt (r.birth + (s.input i).offset) i with _ | ⟨a, rest⟩ <;> rfl

/-! ### Resolution (R101) -/

/-- An input's pending checks in the state. -/
def State.withPending (i : Fin 16) (pending : List PendingCheck) (s : State) : State :=
  { s with chk := s.chk.set i { s.chkInput i with pending := pending } }

theorem State.resolveInput_none {r : Record} {i : Fin 16} {s : State}
    (h : ∀ p ∈ (s.chkInput i).pending, p.serial = r.serial → p.resolved = true) : s.resolveInput r i = s := by
  have hnone : (s.chkInput i).pending.find? (fun p => p.serial == r.serial && !p.resolved) = none :=
    List.find?_eq_none.2 fun p hp => by
      by_cases hserial : p.serial = r.serial
      · simp [h p hp hserial]
      · simp [hserial]
  unfold State.resolveInput
  rw [hnone]

/-- The unresolved check of a record by the alternative it keeps. -/
theorem State.resolveInput_found {r : Record} {i : Fin 16} {s : State} {before after : List PendingCheck} {p : PendingCheck}
    (hlist : (s.chkInput i).pending = before ++ p :: after) (hserial : p.serial = r.serial) (hopen : p.resolved = false)
    (hothers : ∀ q ∈ before ++ after, q.serial ≠ r.serial) :
    s.resolveInput r i =
      match p.kept r.variant with
      | none => s.withPending i (before ++ after)
      | some a =>
        let resolved := s.withPending i (before ++ { p with resolved := true, alternatives := [a] } :: after)
        if a.passed then resolved.closeCheck i r.serial a else resolved := by
  have hfound : (s.chkInput i).pending.find? (fun q => q.serial == r.serial && !q.resolved) = some p := by
    rw [hlist]
    exact find?_middle (fun q hq => by simp [hothers q (List.mem_append_left _ hq)]) (by simp [hserial, hopen])
  unfold State.resolveInput
  rw [hfound]
  dsimp only
  cases p.kept r.variant with
  | none =>
    have hleft : ((s.chkInput i).pending.filter fun q => q.serial != r.serial) = before ++ after := by
      rw [hlist, List.filter_append, List.filter_cons_of_neg (by simp [hserial]), ← List.filter_append]
      exact List.filter_eq_self.2 fun q hq => by simp [hothers q hq]
    exact congrArg (fun l => s.withPending i l) hleft
  | some a =>
    have hmapped := map_middle (p := fun q : PendingCheck => q.serial = r.serial)
      (fun q => { q with resolved := true, alternatives := [a] }) hothers hserial
    rw [← hlist] at hmapped
    exact congrArg (fun l => if a.passed then (s.withPending i l).closeCheck i r.serial a else s.withPending i l) hmapped

theorem PendingCheck.kept_none {p : PendingCheck} {variant : Option (Fin 4)}
    (h : ∀ a ∈ p.alternatives, a.variant ≠ variant.getD 0) : p.kept variant = none := by
  rw [PendingCheck.kept, List.find?_eq_none.2 fun a ha => by simp [h a ha]]
  rfl

theorem PendingCheck.kept_middle {p : PendingCheck} {variant : Option (Fin 4)} {front back : List Alternative}
    {a : Alternative} (hlist : p.alternatives = front ++ a :: back) (ha : a.variant = variant.getD 0)
    (hothers : ∀ b ∈ front ++ back, b.variant ≠ variant.getD 0) :
    p.kept variant = some { a with fallback := variant.isNone } := by
  rw [PendingCheck.kept, hlist, find?_middle (fun b hb => by simp [hothers b (List.mem_append_left _ hb)]) (by simp [ha])]
  rfl

/-! ### Judgement (R104 to R106) -/

/-- An input whose check has left the list, its window the last closed one (R104). -/
def State.withoutCheck (i : Fin 16) (serial : Nat) (a : Alternative) (s : State) : State :=
  s.setChk i fun x => { x with
    pending := x.pending.filter fun p => p.serial != serial, lastClosed := some (a.start, a.stop) }

theorem State.closeCheck_eq (i : Fin 16) (serial : Nat) (a : Alternative) (s : State) :
    s.closeCheck i serial a =
      if s.skips serial a then s.withoutCheck i serial a
      else if a.pass then (s.withoutCheck i serial a).setChk i fun x => { x with consecutive := 0 }
      else (s.withoutCheck i serial a).checkDefect i serial := rfl

theorem State.skips_middle {before after : List Record} {r : Record} {s : State} (a : Alternative)
    (hq : s.trq.queue = before ++ r :: after) (hothers : ∀ x ∈ before ++ after, x.serial ≠ r.serial) :
    s.skips r.serial a = true ↔ a.fallback = true ∨ r.poisoned = true ∨ ∃ c, a.paired = some c ∧ c ∈ r.suppressed := by
  rw [State.skips, State.findRecord_middle hq hothers]
  cases a.paired <;> simp

theorem Alternative.pass_iff (a : Alternative) :
    a.pass = true ↔ (a.expect = .present ∧ a.seen = true) ∨ (a.expect = .absent ∧ a.seen = false) := by
  cases he : a.expect <;> cases hs : a.seen <;> simp [Alternative.pass, he, hs]

/-- A defect write touches the queue and the counters alone. -/
theorem State.writeDefect_frame (serial : Nat) (reason : Reason) (more : Record → Record) (s : State) :
    s.writeDefect serial reason more = { s with
      trq := (s.writeDefect serial reason more).trq
      sup := { s.sup with counters := (s.writeDefect serial reason more).sup.counters } } := by
  unfold State.writeDefect
  split
  · rfl
  · next r _ =>
    split
    · rfl
    · cases r.defects.has reason <;> rfl

theorem State.writeDefect_counter {k : Fin 38} {serial : Nat} {reason : Reason} {more : Record → Record} {s : State}
    (hafter : k ≠ ctrDefectsAfterFinal) (hreason : k ≠ ctrReason reason) :
    (s.writeDefect serial reason more).sup.counters.get k = s.sup.counters.get k := by
  have hbump : (s.bump ctrDefectsAfterFinal).sup.counters.get k = s.sup.counters.get k :=
    (s.bump_counters _ _).trans (if_neg hafter)
  unfold State.writeDefect
  split
  · exact hbump
  · next r _ =>
    split
    · exact hbump
    · cases r.defects.has reason
      · exact (State.bump_counters _ _ _).trans (if_neg hreason)
      · rfl

/-- A defect of a closing check, before the consecutive count moves: the write, and the run it may begin (R105, R106). -/
def State.defected (i : Fin 16) (serial : Nat) (s : State) : State :=
  (s.writeCheckDefect serial i).bumpIf (decide ((s.chkInput i).consecutive = 0)) (ctrDefectRuns i)

theorem State.defected_frame (i : Fin 16) (serial : Nat) (s : State) :
    s.defected i serial = { s with
      trq := (s.writeCheckDefect serial i).trq
      sup := { s.sup with counters := (s.defected i serial).sup.counters } } := by
  unfold State.defected
  rw [State.bumpIf_eq, State.writeCheckDefect, State.writeDefect_frame]

theorem State.checkDefect_eq (i : Fin 16) (serial : Nat) (s : State) :
    s.checkDefect i serial =
      if 0 < (s.input i).limit ∧ min 15 ((s.chkInput i).consecutive + 1) = (s.input i).limit then
        ((s.defected i serial).setChk i fun x => { x with consecutive := 0 }).raise .consecutiveDefect .stop (.number i.val)
      else (s.defected i serial).setChk i fun x =>
        { x with consecutive := min 15 ((s.chkInput i).consecutive + 1) } := by
  have hframe := State.writeDefect_frame serial .check (fun r => { r with failed := appendNew r.failed i }) s
  have hinput : (s.writeCheckDefect serial i).chkInput i = s.chkInput i := congrArg (fun t => t.chkInput i) hframe
  have hlimit : (s.writeCheckDefect serial i).input i = s.input i := congrArg (fun t => t.input i) hframe
  unfold State.checkDefect State.defected
  dsimp only
  rw [hinput, hlimit]

/-- The write of a check's defect into its record. -/
theorem State.defected_trq {before after : List Record} {r : Record} {s : State} (i : Fin 16)
    (hq : s.trq.queue = before ++ r :: after) (hothers : ∀ x ∈ before ++ after, x.serial ≠ r.serial)
    (hopen : r.final = none) :
    (s.defected i r.serial).trq = { s.trq with queue := before ++ { r with
      defects := { r.defects with check := true }
      failed := if i ∈ r.failed then r.failed else r.failed ++ [i] } :: after } := by
  rw [State.defected, State.bumpIf_trq, State.writeCheckDefect, State.writeDefect_taken hq rfl hopen hothers,
    State.bumpIf_trq]
  rfl

theorem ctrDefectRuns_ne {i : Fin 16} {k : Fin 38} (h : k.val < 20 ∨ 36 ≤ k.val) : ctrDefectRuns i ≠ k := by
  intro he
  have hval : 20 + i.val = k.val := congrArg Fin.val he
  omega

/-- A settled record takes no defect: the write is counted (R62). -/
theorem State.defected_settled {before after : List Record} {r : Record} {s : State} (i : Fin 16)
    (hq : s.trq.queue = before ++ r :: after) (hothers : ∀ x ∈ before ++ after, x.serial ≠ r.serial)
    (hfinal : r.final ≠ none) :
    (s.defected i r.serial).trq = s.trq ∧
      (s.defected i r.serial).sup.counters.get ctrDefectsAfterFinal =
        saturate (s.sup.counters.get ctrDefectsAfterFinal) := by
  have hrefused : s.writeCheckDefect r.serial i = s.bump ctrDefectsAfterFinal := by
    refine State.writeDefect_refused fun x hx hserial => ?_
    rw [hq, List.mem_append, List.mem_cons] at hx
    rcases hx with hx | rfl | hx
    · exact absurd hserial (hothers x (List.mem_append_left _ hx))
    · exact Option.isSome_iff_ne_none.2 hfinal
    · exact absurd hserial (hothers x (List.mem_append_right _ hx))
  have hruns : ctrDefectsAfterFinal ≠ ctrDefectRuns i := (ctrDefectRuns_ne (.inl (by decide))).symm
  rw [State.defected, hrefused]
  refine ⟨State.bumpIf_trq .., ?_⟩
  rw [State.bumpIf_counter, if_neg (fun h => hruns h.1), State.bump_counters, if_pos rfl]

/-- A first defect begins a run (R106). -/
theorem State.defected_runs (i : Fin 16) (serial : Nat) (s : State) :
    (s.defected i serial).sup.counters.get (ctrDefectRuns i) =
      if (s.chkInput i).consecutive = 0 then saturate (s.sup.counters.get (ctrDefectRuns i))
      else s.sup.counters.get (ctrDefectRuns i) := by
  have hkept : (s.writeCheckDefect serial i).sup.counters.get (ctrDefectRuns i) = s.sup.counters.get (ctrDefectRuns i) :=
    State.writeDefect_counter (ctrDefectRuns_ne (.inl (by decide))) (ctrDefectRuns_ne (.inl (by decide)))
  rw [State.defected, State.bumpIf_counter, hkept]
  simp only [true_and]

/-- What the consecutive count and its fault leave of a defect. -/
theorem State.checkDefect_keeps (i : Fin 16) (serial : Nat) (s : State) :
    (s.checkDefect i serial).trq = (s.defected i serial).trq ∧
    (∀ k, k ≠ ctrNoticesDropped →
      (s.checkDefect i serial).sup.counters.get k = (s.defected i serial).sup.counters.get k) ∧
    ∀ j, j ≠ i → (s.checkDefect i serial).chkInput j = s.chkInput j := by
  have hinput (j : Fin 16) : (s.defected i serial).chkInput j = s.chkInput j :=
    (congrArg (fun t => t.chkInput j) (s.defected_frame i serial)).trans rfl
  rw [State.checkDefect_eq]
  split
  · refine ⟨State.raise_trq .., fun k hk => State.raiseAt_counter _ _ _ _ _ hk, fun j hj => ?_⟩
    rw [State.chkInput, State.raise_chk]
    exact (State.chkInput_setChk_ne _ _ hj).trans (hinput j)
  · exact ⟨rfl, fun _ _ => rfl, fun j hj => (State.chkInput_setChk_ne _ _ hj).trans (hinput j)⟩

/-- Below the limit the count moves and nothing is raised. -/
theorem State.checkDefect_below {i : Fin 16} {serial : Nat} {s : State}
    (h : (s.input i).limit = 0 ∨ min 15 ((s.chkInput i).consecutive + 1) ≠ (s.input i).limit) :
    (s.checkDefect i serial).chkInput i =
        { s.chkInput i with consecutive := min 15 ((s.chkInput i).consecutive + 1) } ∧
      (s.checkDefect i serial).sup.deferred = s.sup.deferred ∧ (s.checkDefect i serial).sup.log = s.sup.log := by
  have hframe := s.defected_frame i serial
  have hinput : (s.defected i serial).chkInput i = s.chkInput i := (congrArg (fun t => t.chkInput i) hframe).trans rfl
  rw [State.checkDefect_eq, if_neg (by omega), State.chkInput_setChk, hinput]
  exact ⟨rfl, congrArg (fun t => t.sup.deferred) hframe, congrArg (fun t => t.sup.log) hframe⟩

/-- At the limit the count returns to 0 and CONSECUTIVE_DEFECT is raised (R106). -/
theorem State.checkDefect_limit {i : Fin 16} {serial : Nat} {s : State} (hpos : 0 < (s.input i).limit)
    (hlimit : min 15 ((s.chkInput i).consecutive + 1) = (s.input i).limit) :
    (s.checkDefect i serial).chkInput i = { s.chkInput i with consecutive := 0 } ∧
      (s.checkDefect i serial).sup.deferred =
        s.sup.deferred ++ [.stop (.fault (s.checkDefect i serial).sup.lastSequence)] ∧
      (s.sup.lastSequence < 4294967295 → s.sup.log.length < 16 → (s.checkDefect i serial).sup.log = s.sup.log ++
        [⟨s.sup.lastSequence + 1, .consecutiveDefect, .stop, s.sup.line, s.pitch, .number i.val⟩]) := by
  have hframe := s.defected_frame i serial
  have hinput : (s.defected i serial).chkInput i = s.chkInput i := (congrArg (fun t => t.chkInput i) hframe).trans rfl
  have hsup : (s.defected i serial).sup = { s.sup with counters := (s.defected i serial).sup.counters } :=
    (congrArg State.sup hframe).trans rfl
  have hpitch : (s.defected i serial).pitch = s.pitch := (congrArg State.pitch hframe).trans rfl
  rw [State.checkDefect_eq, if_pos ⟨hpos, hlimit⟩]
  generalize s.defected i serial = u at hinput hsup hpitch
  refine ⟨?_, ?_, fun hlast hroom => ?_⟩
  · rw [State.chkInput, State.raise_chk]
    exact (State.chkInput_setChk i _ u).trans (by rw [hinput])
  · refine (State.raiseAt_sup_deferred ..).trans ?_
    show u.sup.deferred ++ _ = s.sup.deferred ++ _
    rw [hsup]
    rfl
  · have hlast' : u.sup.lastSequence < 4294967295 := by rw [hsup]; exact hlast
    have hroom' : u.sup.log.length < 16 := by rw [hsup]; exact hroom
    refine (State.raise_logs (s := u.setChk i fun x => { x with consecutive := 0 }) hlast' hroom').trans ?_
    show u.sup.log ++ [⟨u.sup.lastSequence + 1, _, _, u.sup.line, u.pitch, _⟩] = _
    rw [hpitch, hsup]

/-- Settles O55: what creation opens, what a resolution keeps, and the three ways a closing check is judged. -/
theorem checksAreOpenedResolvedAndJudged : Obligations.ChecksAreOpenedResolvedAndJudged := by
  unfold Obligations.ChecksAreOpenedResolvedAndJudged
  refine ⟨?_, ?_, ?_⟩
  · intro r s t target entry
    have hframe : t = { s with chk := t.chk } := by
      show s.chkCreate r = { s with chk := (s.chkCreate r).chk }
      rw [State.chkCreate_eq]
    refine ⟨hframe, fun i => ⟨fun hnone => ?_, fun ⟨v, k, hk⟩ => ?_⟩⟩
    · have hempty : (s.format r.format).alternativesAt (r.birth + (s.input i).offset) i = [] :=
        List.eq_nil_iff_forall_not_mem.2 fun a ha => by
          obtain ⟨v, k, hk, -⟩ := Format.alternativesAt_mem.1 ha
          exact absurd ((hnone v).symm.trans hk) (by simp)
      refine (s.chkCreate_chkInput r i).trans ?_
      rw [State.open?, State.pendingCheckFor_eq, if_pos hempty]
    · have hfilled : (s.format r.format).alternativesAt (r.birth + (s.input i).offset) i ≠ [] :=
        List.ne_nil_of_mem (Format.alternativesAt_mem.2 ⟨v, k, hk, rfl⟩)
      refine ⟨(s.format r.format).alternativesAt (target i) i, (s.chkCreate_chkInput r i).trans ?_,
        Format.alternativesAt_variants _ _ _, fun a => Format.alternativesAt_mem⟩
      rw [State.open?, State.pendingCheckFor_eq, if_neg hfilled]
  · intro r s variant
    have hvariant : r.variant.getD 0 = variant := by
      show _ = match r.variant with | some v => v | none => 0
      cases r.variant <;> rfl
    refine ⟨rfl, ?_⟩
    intro i becomes
    refine ⟨State.resolveInput_none, ?_⟩
    intro before p after hlist hserial hopen hothers
    have hresolve := State.resolveInput_found hlist hserial hopen hothers
    refine ⟨fun hnone => ?_, ?_⟩
    · rw [PendingCheck.kept_none (variant := r.variant) (by rw [hvariant]; exact hnone)] at hresolve
      exact hresolve
    · intro front a back halternatives ha hrest kept resolved
      rw [PendingCheck.kept_middle (variant := r.variant) halternatives (ha.trans hvariant.symm)
        (by rw [hvariant]; exact hrest)] at hresolve
      exact ⟨fun hpassed => hresolve.trans (if_neg (by simp [hpassed])), fun hpassed => hresolve.trans (if_pos hpassed)⟩
  · intro i a before after r s hq hothers t x skipped passes closed limit count
    have hjudged := s.closeCheck_eq i r.serial a
    have hskips : s.skips r.serial a = true ↔ skipped := State.skips_middle a hq hothers
    have hpass : a.pass = true ↔ passes := a.pass_iff
    have hclosed : (s.withoutCheck i r.serial a).chkInput i = closed x.consecutive := State.chkInput_setChk i _ s
    have hapart (j : Fin 16) (hj : j ≠ i) : (s.withoutCheck i r.serial a).chkInput j = s.chkInput j :=
      State.chkInput_setChk_ne _ s hj
    have hskipped (h : skipped) : t = s.withoutCheck i r.serial a := hjudged.trans (if_pos (hskips.2 h))
    have hpassed (h : ¬skipped) (h' : passes) :
        t = (s.withoutCheck i r.serial a).setChk i fun y => { y with consecutive := 0 } :=
      hjudged.trans ((if_neg (mt hskips.1 h)).trans (if_pos (hpass.2 h')))
    have hdefect (h : ¬skipped) (h' : ¬passes) : t = (s.withoutCheck i r.serial a).checkDefect i r.serial :=
      hjudged.trans ((if_neg (mt hskips.1 h)).trans (if_neg (mt hpass.1 h')))
    obtain ⟨htrq, hcounters, hkept⟩ := State.checkDefect_keeps i r.serial (s.withoutCheck i r.serial a)
    refine ⟨fun j hj => ?_, fun h => ?_, fun h h' => ?_, fun h h' => ?_⟩
    · by_cases h : skipped
      · rw [hskipped h]
        exact hapart j hj
      · by_cases h' : passes
        · rw [hpassed h h']
          exact (State.chkInput_setChk_ne _ _ hj).trans (hapart j hj)
        · rw [hdefect h h']
          exact (hkept j hj).trans (hapart j hj)
    · rw [hskipped h]
      exact ⟨hclosed, rfl⟩
    · rw [hpassed h h']
      exact ⟨(State.chkInput_setChk _ _ _).trans (by rw [hclosed]), rfl⟩
    · rw [hdefect h h']
      refine ⟨fun hopen => ?_, fun hfinal => ?_, ?_, fun hl => ?_, fun hpos hl => ?_⟩
      · rw [htrq]
        exact State.defected_trq (s := s.withoutCheck i r.serial a) i hq hothers hopen
      · obtain ⟨hsame, hcount⟩ := State.defected_settled (s := s.withoutCheck i r.serial a) i hq hothers hfinal
        rw [htrq, hcounters _ (by decide)]
        exact ⟨hsame, hcount⟩
      · rw [hcounters _ (ctrDefectRuns_ne (.inr (by decide))), State.defected_runs, hclosed]
        rfl
      · have hbelow := State.checkDefect_below (i := i) (serial := r.serial) (s := s.withoutCheck i r.serial a) (by
          rw [hclosed]
          exact hl)
        rw [hclosed] at hbelow
        exact hbelow
      · have hlimit := State.checkDefect_limit (i := i) (serial := r.serial) (s := s.withoutCheck i r.serial a) hpos (by
          rw [hclosed]
          exact hl)
        rw [hclosed] at hlimit
        exact hlimit

end Sys2Proof.Machine

/-! ## Settled: channels, inputs and the input map -/

namespace Sys2Proof.Machine

/-! ### The codes of R178 -/

theorem actFunction?_iff (n : Nat) (fn : ActFunction) :
    actFunction? n = some fn ↔ n = match fn with
      | .knife => 0 | .fold => 1 | .gum => 2 | .patch => 3 | .gate => 4 | .finger => 5 | .general => 6 := by
  constructor
  · intro h
    unfold actFunction? at h
    split at h <;> cases h <;> rfl
  · rintro rfl
    cases fn <;> rfl

theorem policy?_iff (n : Nat) (p : RejectPolicy) :
    policy? n = some p ↔ n = match p with | .fireAlways => 0 | .skipReject => 1 := by
  constructor
  · intro h
    unfold policy? at h
    split at h <;> cases h <;> rfl
  · rintro rfl
    cases p <;> rfl

theorem safeState?_iff (n : Nat) (x : SafeState) :
    safeState? n = some x ↔ n = match x with | .off => 0 | .on => 1 | .hold => 2 := by
  constructor
  · intro h
    unfold safeState? at h
    split at h <;> cases h <;> rfl
  · rintro rfl
    cases x <;> rfl

theorem source?_iff (n : Nat) (x : Source) :
    source? n = some x ↔ n = match x with | .disabled => 0 | .cam => 1 | .manual => 2 := by
  constructor
  · intro h
    unfold source? at h
    split at h <;> cases h <;> rfl
  · rintro rfl
    cases x <;> rfl

theorem inFunction?_iff (n : Nat) (fn : InFunction) :
    inFunction? n = some fn ↔ n = match fn with
      | .unused => 0 | .mark => 1 | .check => 2 | .splice => 3 | .boxTaken => 4 := by
  constructor
  · intro h
    unfold inFunction? at h
    split at h <;> cases h <;> rfl
  · rintro rfl
    cases fn <;> rfl

theorem inLevel?_iff (n : Nat) (l : InLevel) :
    inLevel? n = some l ↔ n = match l with | .low => 0 | .high => 1 := by
  constructor
  · intro h
    unfold inLevel? at h
    split at h <;> cases h <;> rfl
  · rintro rfl
    cases l <;> rfl

/-! ### Channel and input records (R17, R18) -/

/-- The ranges of R17 and their agreement with the function. -/
def Channel.InRange (x : Channel) : Prop :=
  1 ≤ x.node ∧ x.node ≤ 61 ∧ x.point ≤ 15 ∧ x.offset ≤ 30 ∧ x.delay ≤ 20000 ∧ x.dwellMin ≤ 50000 ∧ x.mergeGap ≤ 1023 ∧
    (if x.function = .gate then 1 ≤ x.holdMax ∧ x.holdMax ≤ 16 else x.holdMax = 0) ∧
    (x.function = .knife → x.offset = 0) ∧ (x.function.alwaysFires → x.policy = .fireAlways)

/-- A channel record is read from the arguments it is written in, its ranges kept. -/
theorem channelRecord_iff (a : ChannelArgs) (x : Channel) :
    channelRecord a = some x ↔
      (actFunction? a.function.toNat = some x.function ∧ policy? a.policy.toNat = some x.policy ∧
        safeState? a.safeState.toNat = some x.safeState ∧ source? a.source.toNat = some x.source) ∧
      (x.node = a.node.toNat ∧ x.point = a.point.toNat ∧ x.offset = a.offset.toNat ∧ x.delay = a.delay.toNat ∧
        x.dwellMin = a.dwellMin.toNat ∧ x.mergeGap = a.mergeGap.toNat ∧ x.holdMax = a.holdMax.toNat) ∧ x.InRange := by
  constructor
  · intro h
    unfold channelRecord at h
    split at h
    · next fn policy safeState source hfn hpolicy hsafe hsource =>
      obtain ⟨hrange, hx⟩ := Option.ite_none_right_eq_some.1 h
      cases hx
      exact ⟨⟨hfn, hpolicy, hsafe, hsource⟩, ⟨rfl, rfl, rfl, rfl, rfl, rfl, rfl⟩, hrange⟩
    · cases h
  · obtain ⟨node, point, fn, offset, delay, dwellMin, mergeGap, holdMax, policy, safeState, source⟩ := x
    rintro ⟨⟨hfn, hpolicy, hsafe, hsource⟩, ⟨rfl, rfl, rfl, rfl, rfl, rfl, rfl⟩, hrange⟩
    unfold channelRecord
    rw [hfn, hpolicy, hsafe, hsource]
    exact if_pos hrange

/-- Settles O22: the codes by their tables, the fields as sent, the ranges as tested. -/
theorem channelFieldsAreTestedByTheirRanges : Obligations.ChannelFieldsAreTestedByTheirRanges := by
  intro a x
  rw [channelRecord_iff, actFunction?_iff, policy?_iff, safeState?_iff, source?_iff, Channel.InRange]
  have hgate : (if x.function = .gate then 1 ≤ x.holdMax ∧ x.holdMax ≤ 16 else x.holdMax = 0) ↔
      (x.function = .gate → 1 ≤ x.holdMax ∧ x.holdMax ≤ 16) ∧ (x.function ≠ .gate → x.holdMax = 0) := by
    by_cases h : x.function = .gate <;> simp [h]
  rw [hgate, alwaysFires_iff]
  constructor
  · rintro ⟨⟨hfn, hpolicy, hsafe, hsource⟩, ⟨hnode, hpoint, hoffset, hdelay, hdwell, hgap, hhold⟩, hlow, hhigh, hpt, hoff, hdel,
      hdw, hmg, ⟨hg, hng⟩, hknife, hfires⟩
    exact ⟨⟨hnode, hpoint, hfn, hoffset, hdelay, hdwell, hgap, hhold, hpolicy, hsafe, hsource⟩, hlow, hhigh, hpt, hoff, hdel,
      hdw, hmg, hg, hng, hknife, hfires⟩
  · rintro ⟨⟨hnode, hpoint, hfn, hoffset, hdelay, hdwell, hgap, hhold, hpolicy, hsafe, hsource⟩, hlow, hhigh, hpt, hoff, hdel,
      hdw, hmg, hg, hng, hknife, hfires⟩
    exact ⟨⟨hfn, hpolicy, hsafe, hsource⟩, ⟨hnode, hpoint, hoffset, hdelay, hdwell, hgap, hhold⟩, hlow, hhigh, hpt, hoff, hdel,
      hdw, hmg, ⟨hg, hng⟩, hknife, hfires⟩

/-- An input record is read from the arguments it is written in, its offset and limit in the ranges of its function. -/
theorem inputRecord_iff (a : InputArgs) (x : Input) :
    inputRecord a = some x ↔
      inFunction? a.function.toNat = some x.function ∧ inLevel? a.activeLevel.toNat = some x.activeLevel ∧
      x.offset = a.offset.toNat ∧ x.glitchMin = a.glitchMin.toNat ∧ x.limit = a.limit.toNat ∧
      (x.function = .check → x.offset ≤ 30 ∧ x.limit ≤ 15) ∧ (x.function ≠ .check → x.offset = 0 ∧ x.limit = 0) := by
  constructor
  · intro h
    unfold inputRecord at h
    split at h
    · next fn level hfn hlevel =>
      split at h
      · next hcheck =>
        split at h
        · next hrange =>
          cases h
          exact ⟨hfn, hlevel, rfl, rfl, rfl, fun _ => hrange, fun hnot => absurd hcheck hnot⟩
        · cases h
      · next hother =>
        split at h
        · next hzero =>
          cases h
          exact ⟨hfn, hlevel, hzero.1.symm, rfl, hzero.2.symm, fun hcheck => absurd hcheck hother, fun _ => ⟨rfl, rfl⟩⟩
        · cases h
    · cases h
  · obtain ⟨fn, offset, level, glitchMin, limit⟩ := x
    rintro ⟨hfn, hlevel, rfl, rfl, rfl, hcheck, hother⟩
    unfold inputRecord
    rw [hfn, hlevel]
    dsimp only at hcheck hother ⊢
    by_cases h : fn = .check
    · rw [if_pos h]
      exact if_pos (hcheck h)
    · obtain ⟨hoffset, hlimit⟩ := hother h
      rw [if_neg h, if_pos ⟨hoffset, hlimit⟩, hoffset, hlimit]

/-! ### Formats that name a channel or an input, and their fall to INVALID (R21, R24) -/

theorem Format.allWindows_any (f : Format) (p : WindowEntry → Bool) :
    (f.allWindows.any fun (_, w) => p w) = true ↔ ∃ v, ∃ w ∈ (f.program v).windows, p w = true := by
  simp [Format.allWindows, List.any_flatMap, List.any_map, List.any_eq_true, variants_mem]

theorem Format.allChecks_any (f : Format) (p : CheckEntry → Bool) :
    (f.allChecks.any fun (_, k) => p k) = true ↔ ∃ v, ∃ k ∈ (f.program v).checks, p k = true := by
  simp [Format.allChecks, List.any_flatMap, List.any_map, List.any_eq_true, variants_mem]

theorem Format.namesChannel_iff (f : Format) (c : Fin 24) :
    f.namesChannel c = true ↔ f.required.getLsbD c.val = true ∨
      ∃ v, (∃ w ∈ (f.program v).windows, w.channel = c) ∨ ∃ k ∈ (f.program v).checks, k.paired = some c := by
  rw [Format.namesChannel, Bool.or_eq_true, Bool.or_eq_true, f.allWindows_any (·.channel == c),
    f.allChecks_any (·.paired == some c), or_assoc]
  simp only [beq_iff_eq, exists_or]

theorem Format.namesInput_iff (f : Format) (inputs : Vector Input 16) (i : Fin 16) :
    f.namesInput inputs i = true ↔ (∃ v, ∃ k ∈ (f.program v).checks, k.input = i) ∨
      ((f.state = .valid ∨ f.state = .invalid) ∧ (inputs.get i).function = .mark) := by
  rw [Format.namesInput, Bool.or_eq_true, f.allChecks_any (·.input == i)]
  simp only [beq_iff_eq, Bool.and_eq_true, Bool.or_eq_true]

/-- The formats listed fall to INVALID, the others stay. -/
theorem Store.invalidate_format (st : Store) {ids : List (Fin 16)} (hids : ids.Nodup) (f : Fin 16) :
    (st.invalidate ids).formats.get f =
      if f ∈ ids then { st.formats.get f with state := .invalid } else st.formats.get f :=
  foldl_updateAt_get (fun _ (x : Format) => { x with state := .invalid }) ids hids st.formats f

theorem formatIds_filter_nodup (p : Fin 16 → Bool) : (formatIds.filter p).Nodup := (List.nodup_finRange 16).filter p

theorem formatIds_any (p : Fin 16 → Bool) : formatIds.any p = true ↔ ∃ f, p f = true := by
  simp [formatIds, List.any_eq_true]

theorem invalidatedList_eq (ids : List (Fin 16)) :
    invalidatedList ids = BitVec.ofNat 8 ids.length :: ids.map fun f => BitVec.ofNat 8 (f.val + 1) := by
  have hone (f : Fin 16) : bigEndian 1 (formatNumber f) = [BitVec.ofNat 8 (f.val + 1)] := bigEndian_one _
  rw [invalidatedList, bigEndian_one]
  simp only [hone, ← List.map_eq_flatMap]
  rfl

/-! ### CHANNEL_SET (R21) -/

theorem Store.functionTaken_iff (st : Store) (c : Fin 24) (fn : ActFunction) :
    st.functionTaken c fn = true ↔
      fn ∈ [ActFunction.knife, .gate, .finger] ∧ ∃ d, d ≠ c ∧ (st.channels.get d).function = fn := by
  have hany : (channelIds.any fun d => d != c && (st.channels.get d).function == fn) = true ↔
      ∃ d, d ≠ c ∧ (st.channels.get d).function = fn := by
    simp [List.any_eq_true, channelIds_mem]
  rw [Store.functionTaken, Bool.and_eq_true, hany]
  simp [or_assoc]

theorem channelSetOwner_moving {a : ChannelArgs} {s : State} (h : s.sup.line ≠ .idle) :
    channelSetOwner a s = (s, .plain .badState) := if_pos h

theorem channelSetOwner_unknown {a : ChannelArgs} {s : State} (h : s.sup.line = .idle) (hc : 24 ≤ a.channel.toNat) :
    channelSetOwner a s = (s, .plain .unknownId) := by
  rw [channelSetOwner, if_neg (not_not.mpr h), index?_of_le hc]

theorem channelSetOwner_misfit {a : ChannelArgs} {c : Fin 24} {s : State} (h : s.sup.line = .idle)
    (hc : a.channel.toNat = c.val) (hbad : channelRecord a = none) : channelSetOwner a s = (s, .plain .badValue) := by
  rw [channelSetOwner, if_neg (not_not.mpr h), index?_of_lt c hc]
  dsimp only
  rw [hbad]

/-- A channel record in its ranges: tests 4 and 5, and the effect. -/
theorem channelSetOwner_fits {a : ChannelArgs} {c : Fin 24} {new : Channel} {s : State} (h : s.sup.line = .idle)
    (hc : a.channel.toNat = c.val) (hnew : channelRecord a = some new) :
    channelSetOwner a s =
      if s.store.functionTaken c new.function then (s, .plain .badValue)
      else if new = s.channel c then (s, .one .accepted (invalidatedList []))
      else if formatIds.any fun f => (s.format f).namesChannel c && s.inUse f then (s, .plain .inUse)
      else ({ s with store := s.store.setChannel c new }, .one .accepted (invalidatedList (s.store.validNaming c))) := by
  rw [channelSetOwner, if_neg (not_not.mpr h), index?_of_lt c hc]
  dsimp only
  rw [hnew]

/-- Settles O23: naming by its entries, then the tests of R21 in their order. -/
theorem channelSetByTheTests : Obligations.ChannelSetByTheTests := by
  refine ⟨Format.namesChannel_iff, ?_⟩
  intro src tag a s htakes answer run
  have hservice : service (.channelSet src tag a) = some ⟨src, 1, tag, fun _ => 1, channelSetOwner a, false⟩ := rfl
  refine ⟨fun hline => ?_, fun hline hc => ?_, fun c hline hc => ⟨fun hbad => ?_, ?_⟩⟩
  · exact exec_answered hservice htakes (channelSetOwner_moving (s := s.serving 1) hline) rfl Bool.noConfusion
  · exact exec_answered hservice htakes (channelSetOwner_unknown (s := s.serving 1) hline hc) rfl Bool.noConfusion
  · exact exec_answered hservice htakes (channelSetOwner_misfit (s := s.serving 1) hline hc hbad) rfl Bool.noConfusion
  intro new hnew taken used
  have hfits := channelSetOwner_fits (s := s.serving 1) hline hc hnew
  have htaken : s.store.functionTaken c new.function = true ↔ taken := s.store.functionTaken_iff c new.function
  have hused : (formatIds.any fun f => (s.format f).namesChannel c && s.inUse f) = true ↔ used := by
    rw [formatIds_any]
    simp only [Bool.and_eq_true]
    rfl
  refine ⟨fun ht => ?_, fun ht hsame => ?_, fun ht hother hu => ?_, fun ht hother hu => ?_⟩
  · exact exec_answered hservice htakes (hfits.trans (if_pos (htaken.2 ht))) rfl Bool.noConfusion
  · exact exec_answered hservice htakes (hfits.trans ((if_neg (mt htaken.1 ht)).trans (if_pos hsame))) rfl Bool.noConfusion
  · exact exec_answered hservice htakes
      (hfits.trans ((if_neg (mt htaken.1 ht)).trans ((if_neg hother).trans (if_pos (hused.2 hu))))) rfl Bool.noConfusion
  · refine ⟨{ s with store := s.store.setChannel c new }, s.store.validNaming c, ?_, rfl, ?_, fun d hd => ?_, fun f => ?_, rfl⟩
    · rw [← invalidatedList_eq]
      exact exec_answered hservice htakes
        (hfits.trans ((if_neg (mt htaken.1 ht)).trans ((if_neg hother).trans (if_neg (mt hused.1 hu))))) rfl Bool.noConfusion
    · exact Vector.getElem_set_self c.isLt
    · exact Vector.getElem_set_ne c.isLt d.isLt fun e => hd (Fin.ext e.symm)
    · exact Store.invalidate_format _ (formatIds_filter_nodup _) f

end Sys2Proof.Machine

/-! ## Settled: input records, the input map and the line settings -/

namespace Sys2Proof.Machine

/-! ### INPUT_SET (R21, R110) -/

theorem inputSetOwner_moving {a : InputArgs} {s : State} (h : s.sup.line ≠ .idle) :
    inputSetOwner a s = (s, .plain .badState) := if_pos h

theorem inputSetOwner_unknown {a : InputArgs} {s : State} (h : s.sup.line = .idle) (hi : 16 ≤ a.input.toNat) :
    inputSetOwner a s = (s, .plain .unknownId) := by
  rw [inputSetOwner, if_neg (not_not.mpr h), index?_of_le hi]

theorem inputSetOwner_misfit {a : InputArgs} {i : Fin 16} {s : State} (h : s.sup.line = .idle)
    (hi : a.input.toNat = i.val) (hbad : inputRecord a = none) : inputSetOwner a s = (s, .plain .badValue) := by
  rw [inputSetOwner, if_neg (not_not.mpr h), index?_of_lt i hi]
  dsimp only
  rw [hbad]

/-- What an accepted change of an input leaves of CHK and REG: the pulse, the last closed window and the consecutive count
go, and an open mark pulse no longer awaits its width (R110). -/
theorem State.chkInputSet_eq (i : Fin 16) (s : State) :
    s.chkInputSet i = { s with
      reg := { s.reg with openCandidate := if (s.input i).function = .mark then none else s.reg.openCandidate }
      chk := updateAt s.chk i fun x => { x with pulse := .none, lastClosed := none, consecutive := 0 } } := by
  unfold State.chkInputSet
  by_cases h : (s.input i).function = .mark
  · rw [if_pos h, if_pos h]
    rfl
  · rw [if_neg h, if_neg h]
    rfl

/-- An input record in its ranges: tests 4 and 5, and the effect. -/
theorem inputSetOwner_fits {a : InputArgs} {i : Fin 16} {new : Input} {s : State} (h : s.sup.line = .idle)
    (hi : a.input.toNat = i.val) (hnew : inputRecord a = some new) :
    inputSetOwner a s =
      if new.function = .mark ∧ inputIds.any fun j => j != i && (s.input j).function == .mark then (s, .plain .badValue)
      else if new = s.input i then (s, .one .accepted (invalidatedList []))
      else if formatIds.any fun f => (s.format f).namesInput s.store.inputs i && s.inUse f then (s, .plain .inUse)
      else ({ s with
        store := s.store.setInput i new
        reg := { s.reg with openCandidate := if (s.input i).function = .mark then none else s.reg.openCandidate }
        chk := updateAt s.chk i fun x => { x with pulse := .none, lastClosed := none, consecutive := 0 } },
          .one .accepted (invalidatedList (s.store.validNamingInput i))) := by
  rw [inputSetOwner, if_neg (not_not.mpr h), index?_of_lt i hi]
  dsimp only
  rw [hnew]
  dsimp only
  rw [State.chkInputSet_eq]

/-- Settles O24: the record by its ranges, naming by its entries, then the tests of R21 in their order. -/
theorem inputSetByTheTests : Obligations.InputSetByTheTests := by
  refine ⟨fun a x => ?_, Format.namesInput_iff, ?_⟩
  · rw [inputRecord_iff, inFunction?_iff, inLevel?_iff] <;> rfl
  intro src tag a s htakes answer run
  have hservice : service (.inputSet src tag a) = some ⟨src, 2, tag, fun _ => 1, inputSetOwner a, false⟩ := rfl
  refine ⟨fun hline => ?_, fun hline hi => ?_, fun i hline hi => ⟨fun hbad => ?_, ?_⟩⟩
  · exact exec_answered hservice htakes (inputSetOwner_moving (s := s.serving 1) hline) rfl Bool.noConfusion
  · exact exec_answered hservice htakes (inputSetOwner_unknown (s := s.serving 1) hline hi) rfl Bool.noConfusion
  · exact exec_answered hservice htakes (inputSetOwner_misfit (s := s.serving 1) hline hi hbad) rfl Bool.noConfusion
  intro new hnew taken used
  have hfits := inputSetOwner_fits (s := s.serving 1) hline hi hnew
  have htaken : (new.function = .mark ∧ (inputIds.any fun j => j != i && (s.input j).function == .mark) = true) ↔ taken := by
    refine and_congr_right fun _ => ?_
    simp [List.any_eq_true, inputIds_mem]
  have hused : (formatIds.any fun f => (s.format f).namesInput s.store.inputs i && s.inUse f) = true ↔ used := by
    rw [formatIds_any]
    simp only [Bool.and_eq_true]
    rfl
  refine ⟨fun ht => ?_, fun ht hsame => ?_, fun ht hother hu => ?_, fun ht hother hu => ?_⟩
  · exact exec_answered hservice htakes (hfits.trans (if_pos (htaken.2 ht))) rfl Bool.noConfusion
  · exact exec_answered hservice htakes (hfits.trans ((if_neg (mt htaken.1 ht)).trans (if_pos hsame))) rfl Bool.noConfusion
  · exact exec_answered hservice htakes
      (hfits.trans ((if_neg (mt htaken.1 ht)).trans ((if_neg hother).trans (if_pos (hused.2 hu))))) rfl Bool.noConfusion
  · refine ⟨{ s with
        store := s.store.setInput i new
        reg := { s.reg with openCandidate := if (s.input i).function = .mark then none else s.reg.openCandidate }
        chk := updateAt s.chk i fun x => { x with pulse := .none, lastClosed := none, consecutive := 0 } },
      s.store.validNamingInput i, ?_, rfl, ?_, fun j hj => ?_, fun f => ?_, ?_, fun j hj => ?_, rfl⟩
    · rw [← invalidatedList_eq]
      exact exec_answered hservice htakes
        (hfits.trans ((if_neg (mt htaken.1 ht)).trans ((if_neg hother).trans (if_neg (mt hused.1 hu))))) rfl Bool.noConfusion
    · exact Vector.getElem_set_self i.isLt
    · exact Vector.getElem_set_ne i.isLt j.isLt fun e => hj (Fin.ext e.symm)
    · exact Store.invalidate_format _ (formatIds_filter_nodup _) f
    · exact (State.chkInput_setChk i _ s).trans rfl
    · exact State.chkInput_setChk_ne _ s hj

/-! ### MAP_SET and the channel of a report (R19, R22, R94) -/

theorem mapSetOwner_oddEnable {a : MapArgs} (s : State) (h : 1 < a.enable.toNat) :
    mapSetOwner a s = (s, .plain .badValue) := by
  rw [mapSetOwner, yesNo?_none h]

theorem mapSetOwner_moving {a : MapArgs} {s : State} (he : a.enable.toNat ≤ 1) (h : s.sup.line ≠ .idle) :
    mapSetOwner a s = (s, .plain .badState) := by
  rw [mapSetOwner, yesNo?_one he]
  exact if_pos h

theorem mapSetOwner_unknown {a : MapArgs} {s : State} (he : a.enable.toNat ≤ 1) (h : s.sup.line = .idle)
    (hk : 16 ≤ a.index.toNat) : mapSetOwner a s = (s, .plain .unknownId) := by
  rw [mapSetOwner, yesNo?_one he]
  dsimp only
  rw [if_neg (not_not.mpr h), index?_of_le hk]

/-- The entry an accepted MAP_SET stores. -/
def mapEntryOf (a : MapArgs) : MapEntry :=
  ⟨a.enable.toNat == 1, BitVec.ofNat 10 a.base.toNat, BitVec.ofNat 10 a.mask.toNat, a.first.toNat⟩

theorem mapSetOwner_known {a : MapArgs} {k : Fin 16} {s : State} (he : a.enable.toNat ≤ 1) (h : s.sup.line = .idle)
    (hk : a.index.toNat = k.val) :
    mapSetOwner a s =
      if a.base.toNat ≤ 1023 ∧ a.mask.toNat ≤ 1023 ∧ a.first.toNat ≤ 15 then
        ({ s with store := { s.store with map := s.store.map.set k (mapEntryOf a) } }, .plain .accepted)
      else (s, .plain .badValue) := by
  rw [mapSetOwner, yesNo?_one he]
  dsimp only
  rw [if_neg (not_not.mpr h), index?_of_lt k hk]
  dsimp only
  rw [mapRecord]
  split
  · next hrange => split at hrange <;> simp_all
  · next e hrange =>
    split at hrange
    · cases hrange
      exact (if_pos ‹_›).symm
    · cases hrange

/-- The first entry of a table that a condition picks. -/
theorem find?_get {α : Type} {n : Nat} {v : Vector α n} {p : α → Bool} {k : Fin n} (hk : p (v.get k) = true)
    (hfirst : ∀ j < k, ¬p (v.get j) = true) : v.toList.find? p = some (v.get k) := by
  refine List.find?_eq_some_iff_getElem.2 ⟨hk, k.val, by simp, by simp [Vector.get_eq_getElem], fun j hj => ?_⟩
  have hnot := hfirst ⟨j, by omega⟩ hj
  simpa [Vector.get_eq_getElem] using hnot

theorem MapEntry.isMatch_iff (e : MapEntry) (key : BitVec 12) :
    e.isMatch key = true ↔
      e.enable = true ∧ ∀ n : Fin 10, e.mask.getLsbD n = true → key.getLsbD n = e.base.getLsbD n := by
  rw [MapEntry.isMatch, Bool.and_eq_true, beq_iff_eq]
  refine and_congr_right fun _ => ⟨fun h n hn => ?_, fun h => ?_⟩
  · have hbit := congrArg (fun x => BitVec.getLsbD x n.val) h
    simp only [BitVec.getLsbD_and, BitVec.getLsbD_setWidth, hn, show n.val < 12 by omega, decide_true, Bool.true_and,
      Bool.and_true] at hbit
    exact hbit
  · refine BitVec.eq_of_getLsbD_eq fun n hn => ?_
    simp only [BitVec.getLsbD_and, BitVec.getLsbD_setWidth, hn, decide_true, Bool.true_and]
    by_cases hten : n < 10
    · cases hmask : e.mask.getLsbD n
      · rw [Bool.and_false, Bool.and_false]
      · rw [h ⟨n, hten⟩ hmask]
    · rw [BitVec.getLsbD_of_ge e.mask n (by omega), Bool.and_false, Bool.and_false]

theorem State.mapEdge_none {s : State} {key : BitVec 12} (h : ∀ k, ¬(s.store.map.get k).isMatch key = true) :
    s.mapEdge key = none := by
  have hnone : s.store.map.toList.find? (fun e => e.isMatch key) = none := by
    refine List.find?_eq_none.2 fun e he => ?_
    obtain ⟨k, hk, rfl⟩ := List.mem_iff_getElem.1 he
    simpa [Vector.get_eq_getElem] using h ⟨k, by simpa using hk⟩
  unfold State.mapEdge
  rw [hnone]

theorem State.mapEdge_first {s : State} {key : BitVec 12} {k : Fin 16} (hk : (s.store.map.get k).isMatch key = true)
    (hfirst : ∀ j < k, ¬(s.store.map.get j).isMatch key = true) :
    s.mapEdge key = match index? 16 ((s.store.map.get k).channelOf key) with
      | none => none
      | some i => if (s.input i).function = .unused then none else some i := by
  unfold State.mapEdge
  rw [find?_get (v := s.store.map) (p := fun e => e.isMatch key) hk hfirst] <;> rfl

/-- Settles O25: the tests of R22, then the first entry that agrees. -/
theorem mapEntriesAreStoredAndDecide : Obligations.MapEntriesAreStoredAndDecide := by
  refine ⟨?_, ?_⟩
  · intro src tag a s htakes answer run inRange
    have hservice : service (.mapSet src tag a) = some ⟨src, 3, tag, fun _ => 1, mapSetOwner a, false⟩ := rfl
    refine ⟨fun he => ?_, fun he => ⟨fun hline => ?_, fun hline hk => ?_, fun hline hk hbad => ?_,
      fun k hline hk hrange => ?_⟩⟩
    · exact exec_answered hservice htakes (mapSetOwner_oddEnable (s.serving 1) he) rfl Bool.noConfusion
    · exact exec_answered hservice htakes (mapSetOwner_moving (s := s.serving 1) he hline) rfl Bool.noConfusion
    · exact exec_answered hservice htakes (mapSetOwner_unknown (s := s.serving 1) he hline hk) rfl Bool.noConfusion
    · have hknown := mapSetOwner_known (s := s.serving 1) (k := ⟨a.index.toNat, by omega⟩) he hline rfl
      exact exec_answered hservice htakes (hknown.trans (if_neg hbad)) rfl Bool.noConfusion
    · have hknown := mapSetOwner_known (s := s.serving 1) he hline hk
      have hstored : ({ s.store with map := s.store.map.set k (mapEntryOf a) } : Store).map.get k = mapEntryOf a :=
        Vector.getElem_set_self k.isLt
      obtain ⟨hbase, hmask, hfirst⟩ := hrange
      refine ⟨{ s with store := { s.store with map := s.store.map.set k (mapEntryOf a) } },
        exec_answered hservice htakes (hknown.trans (if_pos ⟨hbase, hmask, hfirst⟩)) rfl Bool.noConfusion, rfl,
        fun j hj => Vector.getElem_set_ne k.isLt j.isLt fun e => hj (Fin.ext e.symm), ?_, ?_, ?_, ?_⟩
      · exact congrArg MapEntry.enable hstored
      · refine (congrArg (fun e => e.base.toNat) hstored).trans ?_
        exact Nat.mod_eq_of_lt (show a.base.toNat < 1024 by omega)
      · refine (congrArg (fun e => e.mask.toNat) hstored).trans ?_
        exact Nat.mod_eq_of_lt (show a.mask.toNat < 1024 by omega)
      · exact congrArg MapEntry.first hstored
  · intro s key agrees matched
    have hmatch (k : Fin 16) : (s.store.map.get k).isMatch key = true ↔ matched k := MapEntry.isMatch_iff _ key
    refine ⟨fun hnone => State.mapEdge_none fun k => mt (hmatch k).1 (hnone k), ?_⟩
    intro k hk hbefore number
    have hmapped := State.mapEdge_first ((hmatch k).2 hk) fun j hj => mt (hmatch j).1 (hbefore j hj)
    refine ⟨fun hlarge => ?_, fun i hi => ?_⟩
    · rw [index?_of_le (show 16 ≤ (s.store.map.get k).channelOf key from hlarge)] at hmapped
      exact hmapped
    · rw [index?_of_lt i (show (s.store.map.get k).channelOf key = i.val from hi)] at hmapped
      exact ⟨fun hunused => hmapped.trans (if_pos hunused), fun hused => hmapped.trans (if_neg hused)⟩

/-! ### SETTINGS_SET (R20, R23) -/

/-- The settings an accepted SETTINGS_SET stores. -/
def settingsOf (a : SettingsArgs) : Settings :=
  ⟨a.driveNode.toNat, a.feedNode.toNat, a.noticeAddress.toNat, a.motionTimeout.toNat, a.cutMinimum.toNat,
    a.overspeed.toNat, a.debounce.toNat, a.deliveryOffset.toNat, a.boxDeadline.toNat⟩

theorem settingsSetOwner_misfit {a : SettingsArgs} {s : State} (h : s.sup.line = .idle) (hbad : settingsRecord a = none) :
    settingsSetOwner a s = (s, .plain .badValue) := by
  rw [settingsSetOwner, if_neg (not_not.mpr h), hbad]

/-- Settings in their ranges: test 3 and the effect, the formats rechecked where the delivery offset moved. -/
theorem settingsSetOwner_fits {a : SettingsArgs} {s : State} (h : s.sup.line = .idle)
    (hnew : settingsRecord a = some (settingsOf a)) :
    settingsSetOwner a s =
      if a.deliveryOffset.toNat = s.settings.deliveryOffset then
        (s.applySettings (settingsOf a) [], .one .accepted (invalidatedList []))
      else if !s.lot.table.isEmpty then (s, .plain .inUse)
      else (s.applySettings (settingsOf a) (s.store.untimely a.deliveryOffset.toNat),
        .one .accepted (invalidatedList (s.store.untimely a.deliveryOffset.toNat))) := by
  rw [settingsSetOwner, if_neg (not_not.mpr h), hnew]
  rfl

/-- Stored settings with the formats that fall to INVALID. -/
def State.withSettings (new : Settings) (ids : List (Fin 16)) (s : State) : State :=
  { s with store := { s.store with settings := new }.invalidate ids }

theorem State.applySettings_same {new : Settings} {s : State} (ids : List (Fin 16))
    (h : new.driveNode = s.settings.driveNode) : s.applySettings new ids = s.withSettings new ids := if_neg (not_not.2 h)

theorem State.applySettings_moved {new : Settings} {s : State} (ids : List (Fin 16))
    (h : new.driveNode ≠ s.settings.driveNode) : s.applySettings new ids = (s.withSettings new ids).losePosition := if_pos h

/-- Settings change nothing on the wire. -/
theorem State.applySettings_wire (new : Settings) (ids : List (Fin 16)) (s : State) (r : Rif) :
    ({ s with rif := r } : State).applySettings new ids = { s.applySettings new ids with rif := r } ∧
      (s.applySettings new ids).rif = s.rif := by
  by_cases h : new.driveNode = s.settings.driveNode
  · rw [State.applySettings_same ids h, State.applySettings_same (s := { s with rif := r }) ids h]
    exact ⟨rfl, rfl⟩
  · rw [State.applySettings_moved ids h, State.applySettings_moved (s := { s with rif := r }) ids h]
    exact ⟨rfl, rfl⟩

theorem State.applySettings_store (new : Settings) (ids : List (Fin 16)) (s : State) :
    (s.applySettings new ids).store = (s.withSettings new ids).store := by
  by_cases h : new.driveNode = s.settings.driveNode
  · rw [State.applySettings_same ids h]
  · rw [State.applySettings_moved ids h]
    rfl

/-- Settles O26: the tests of R23 in their order, then the settings, the formats and the position. -/
theorem settingsSetByTheTests : Obligations.SettingsSetByTheTests := by
  intro src tag a s htakes answer run inRange moved
  have hservice : service (.settingsSet src tag a) = some ⟨src, 4, tag, fun _ => 1, settingsSetOwner a, false⟩ := rfl
  have hrecord (h : inRange) : settingsRecord a = some (settingsOf a) := by
    obtain ⟨⟨hd, hd'⟩, ⟨hf, hf'⟩, hn, ⟨hm, hm'⟩, hc, ⟨ho, ho'⟩, ⟨hb, hb'⟩, ⟨hs, hs'⟩, hx⟩ := h
    exact if_pos ⟨hd, hd', hf, hf', hn, hm, hm', hc, ho, ho', hb, hb', hs, hs', hx⟩
  have hmisfit (h : ¬inRange) : settingsRecord a = none := by
    refine if_neg fun hflat => h ?_
    obtain ⟨hd, hd', hf, hf', hn, hm, hm', hc, ho, ho', hb, hb', hs, hs', hx⟩ := hflat
    exact ⟨⟨hd, hd'⟩, ⟨hf, hf'⟩, hn, ⟨hm, hm'⟩, hc, ⟨ho, ho'⟩, ⟨hb, hb'⟩, ⟨hs, hs'⟩, hx⟩
  refine ⟨fun hline => ?_, fun hline hbad => ?_, fun hline hrange hmoved hlots => ?_, fun hline hrange hlots => ?_⟩
  · exact exec_answered hservice htakes (if_pos (show (s.serving 1).sup.line ≠ .idle from hline)) rfl Bool.noConfusion
  · exact exec_answered hservice htakes (settingsSetOwner_misfit (s := s.serving 1) hline (hmisfit hbad)) rfl
      Bool.noConfusion
  · have hfits := settingsSetOwner_fits (s := s.serving 1) hline (hrecord hrange)
    have hfilled : (!s.lot.table.isEmpty) = true := by simpa using hlots
    exact exec_answered hservice htakes (hfits.trans ((if_neg hmoved).trans (if_pos hfilled))) rfl Bool.noConfusion
  · have hfits := settingsSetOwner_fits (s := s.serving 1) hline (hrecord hrange)
    let ids := (List.finRange 16).filter fun f => moved && (s.format f).state == .valid &&
      (firstFailure 1 (timingChecks s.store a.deliveryOffset.toNat (s.format f))).isSome
    have howner : settingsSetOwner a (s.serving 1) =
        ((s.serving 1).applySettings (settingsOf a) ids, .one .accepted (invalidatedList ids)) := by
      by_cases hmoved : moved
      · have hids : ids = s.store.untimely a.deliveryOffset.toNat := by
          refine List.filter_congr fun f _ => ?_
          rw [decide_eq_true hmoved, Bool.true_and]
          rfl
        have hempty : ¬(!s.lot.table.isEmpty) = true := by simpa using hlots hmoved
        rw [hids]
        exact hfits.trans ((if_neg hmoved).trans (if_neg hempty))
      · have hids : ids = [] := List.filter_eq_nil_iff.2 fun f _ => by simp [hmoved]
        rw [hids]
        exact hfits.trans (if_pos (not_not.1 hmoved))
    obtain ⟨hwire, hrif⟩ := s.applySettings_wire (settingsOf a) ids (s.serving 1).rif
    have hstore := s.applySettings_store (settingsOf a) ids
    have hformat (f : Fin 16) : (s.applySettings (settingsOf a) ids).format f =
        if f ∈ ids then { s.format f with state := .invalid } else s.format f := by
      rw [State.format, hstore]
      exact Store.invalidate_format _ ((List.nodup_finRange 16).filter _) f
    refine ⟨s.applySettings (settingsOf a) ids, ids, ?_, rfl, congrArg Store.settings hstore, hformat,
      (congrArg Store.channels hstore).trans rfl, (congrArg Store.inputs hstore).trans rfl, (congrArg Store.map hstore).trans rfl, fun hsame => ?_,
      fun hdrive => ?_⟩
    · rw [← invalidatedList_eq]
      exact exec_answered hservice htakes (howner.trans (congrArg (·, _) hwire)) hrif Bool.noConfusion
    · rw [State.applySettings_same (new := settingsOf a) ids hsame]
      rfl
    · rw [State.applySettings_moved (new := settingsOf a) ids hdrive]
      obtain ⟨hpos, -⟩ := (s.withSettings (settingsOf a) ids).losePosition_frame
      refine ⟨hpos, fun i => ?_, rfl⟩
      exact (State.chkLosePosition_chkInput _ i).trans rfl

end Sys2Proof.Machine

/-! ## Settled: loading and committing a format -/

namespace Sys2Proof.Machine

/-! ### FORMAT_LOAD (R28) -/

theorem readItems_iff (items : List LoadItem) (loads : List Load) :
    readItems items = some loads ↔ items.map readItem = loads.map some := by
  induction items generalizing loads with
  | nil => cases loads <;> simp [readItems]
  | cons i rest ih =>
    cases hi : readItem i with
    | none => cases loads <;> simp [readItems, hi]
    | some l =>
      cases hrest : readItems rest with
      | none =>
        have hnever (ls : List Load) : rest.map readItem ≠ ls.map some := fun h => by
          rw [← ih, hrest] at h
          exact absurd h (by simp)
        cases loads <;> simp [readItems, hi, hrest, hnever]
      | some ls =>
        rw [ih] at hrest
        cases loads with
        | nil => simp [readItems, hi, (ih ls).2 hrest]
        | cons m ms =>
          simp only [readItems, hi, (ih ls).2 hrest, List.map_cons, hrest, Option.some.injEq, List.cons.injEq]
          rw [(List.map_injective_iff.2 (Option.some_injective Load)).eq_iff]

theorem readItems_none {items : List LoadItem} (h : ∃ i ∈ items, readItem i = none) : readItems items = none := by
  refine Option.eq_none_iff_forall_ne_some.2 fun loads hloads => ?_
  obtain ⟨i, hi, hnone⟩ := h
  have hmem : none ∈ loads.map some := by
    rw [← (readItems_iff items loads).1 hloads, ← hnone]
    exact List.mem_map_of_mem hi
  simp at hmem

theorem formatLoadOwner_number (f : Fin 16) (items : List LoadItem) (s : State) :
    formatLoadOwner (BitVec.ofNat 8 (f.val + 1)) items s =
      if (s.format f).state ≠ .open then (s, .plain .badState)
      else if items.isEmpty ∨ 8 < items.length then (s, .plain .badValue)
      else match readItems items with
        | none => (s, .plain .badValue)
        | some loads =>
          let new := loads.foldl Format.load (s.format f)
          if s.store.freeWindows < new.windowCount - (s.format f).windowCount ∨
              s.store.freeChecks < new.checkCount - (s.format f).checkCount then (s, .plain .full)
          else (s.setFormat f fun _ => new, .one .accepted (bigEndian 2 new.windowCount ++ bigEndian 2 new.checkCount ++
            bigEndian 2 (s.setFormat f fun _ => new).store.freeWindows ++
            bigEndian 2 (s.setFormat f fun _ => new).store.freeChecks)) := by
  rw [formatLoadOwner, formatId?_number] <;> rfl

/-- Settles O29: the three tests of R28 in their order, then every item applied. -/
theorem formatLoadByTheTests : Obligations.FormatLoadByTheTests := by
  intro src tag items f s htakes run answer old
  have hservice : service (.formatLoad src tag (BitVec.ofNat 8 (f.val + 1)) items) =
    some ⟨src, 6, tag, fun _ => 1, formatLoadOwner (BitVec.ofNat 8 (f.val + 1)) items, false⟩ := rfl
  have howner := formatLoadOwner_number f items (s.serving 1)
  refine ⟨fun hstate => ?_, fun hopen hbad => ?_, fun loads hopen hone height hread => ?_⟩
  · exact exec_answered hservice htakes (howner.trans (if_pos hstate)) rfl Bool.noConfusion
  · by_cases hcount : items.isEmpty = true ∨ 8 < items.length
    · exact exec_answered hservice htakes (howner.trans ((if_neg (not_not.2 hopen)).trans (if_pos hcount))) rfl
        Bool.noConfusion
    · have hitem : ∃ i ∈ items, readItem i = none := by
        rcases hbad with hnone | hmany | hitem
        · exact absurd (.inl (List.isEmpty_iff.2 (List.length_eq_zero_iff.1 hnone))) hcount
        · exact absurd (.inr hmany) hcount
        · exact hitem
      rw [readItems_none hitem] at howner
      exact exec_answered hservice htakes (howner.trans ((if_neg (not_not.2 hopen)).trans (if_neg hcount))) rfl
        Bool.noConfusion
  · have hcount : ¬(items.isEmpty = true ∨ 8 < items.length) := by
      rw [List.isEmpty_iff, ← List.length_eq_zero_iff]
      omega
    rw [(readItems_iff items loads).2 hread] at howner
    replace howner := howner.trans ((if_neg (not_not.2 hopen)).trans (if_neg hcount))
    intro new fits
    have hfull : (s.store.freeWindows < new.windowCount - old.windowCount ∨
        s.store.freeChecks < new.checkCount - old.checkCount) ↔ ¬fits := by
      show _ ↔ ¬(new.windowCount ≤ old.windowCount + s.store.freeWindows ∧
        new.checkCount ≤ old.checkCount + s.store.freeChecks)
      omega
    refine ⟨fun hnot => ?_, fun hfits => ⟨s.setFormat f fun _ => new, ?_, rfl, ?_, fun g hg => ?_⟩⟩
    · exact exec_answered hservice htakes (howner.trans (if_pos (hfull.2 hnot))) rfl Bool.noConfusion
    · exact exec_answered hservice htakes (howner.trans (if_neg fun h => hfull.1 h hfits)) rfl Bool.noConfusion
    · exact (State.setFormat_format f f _ s).trans (if_pos rfl)
    · exact (State.setFormat_format f g _ s).trans (if_neg hg)

/-! ### FORMAT_COMMIT (R31) -/

theorem firstFailure_found {subjects : List Subject} (hfail : subjects ≠ []) (rest : List (List Subject)) :
    ∀ (passed : List (List Subject)) (n : Nat), (∀ l ∈ passed, l = []) →
      firstFailure n (passed ++ subjects :: rest) = some (n + passed.length, subjects)
  | [], n, _ => by
    obtain ⟨x, l, rfl⟩ := List.exists_cons_of_ne_nil hfail
    rfl
  | l :: passed, n, hpassed => by
    obtain ⟨rfl, hrest⟩ := List.forall_mem_cons.1 hpassed
    rw [List.cons_append, firstFailure, firstFailure_found hfail rest passed (n + 1) hrest, List.length_cons]
    congr 2
    omega

theorem firstFailure_none : ∀ (checks : List (List Subject)) (n : Nat), (∀ l ∈ checks, l = []) → firstFailure n checks = none
  | [], _, _ => rfl
  | l :: rest, n, hpassed => by
    obtain ⟨rfl, hrest⟩ := List.forall_mem_cons.1 hpassed
    exact firstFailure_none rest (n + 1) hrest

theorem pickSubject_mem (n : Nat) {l : List Subject} (h : l ≠ []) : pickSubject n l ∈ l := by
  obtain ⟨x, rest, rfl⟩ := List.exists_cons_of_ne_nil h
  cases rest with
  | nil => exact List.mem_cons_self ..
  | cons y rest =>
    have hlt : n % (x :: y :: rest).length < (x :: y :: rest).length := Nat.mod_lt _ (by simp)
    show (x :: y :: rest).getD (n % (x :: y :: rest).length) nobody ∈ _
    rw [List.getD_eq_getElem _ _ hlt]
    exact List.getElem_mem hlt

theorem failureResults_eq (n : Nat) (x : Subject) :
    failureResults n x = [BitVec.ofNat 8 n, BitVec.ofNat 8 (match x.1 with | some v => v.val | none => 255),
      BitVec.ofNat 8 (x.2.getD 255)] := by
  rw [failureResults, bigEndian_one, bigEndian_one, bigEndian_one]
  rfl

/-- The three groups of R31 on a format that a number names. -/
theorem formatCommitOwner_number (f : Fin 16) (sum : Half) (s : State) :
    formatCommitOwner (BitVec.ofNat 8 (f.val + 1)) sum s =
      if (s.format f).state ≠ .open then (s, .plain .badState)
      else match firstFailure 1 (fieldChecks s.store (s.format f)) with
        | some (n, subjects) =>
          (s.choose.2, .one .badValue (failureResults n (pickSubject s.choose.1 subjects)))
        | none =>
          match firstFailure 1 (timingChecks s.store s.settings.deliveryOffset (s.format f)) with
          | some (n, subjects) =>
            (s.choose.2, .one .timing (failureResults n (pickSubject s.choose.1 subjects)))
          | none =>
            if (s.format f).contentSum (f.val + 1) = sum.toNat then
              (s.setFormat f fun x => { x with state := .valid, storedSum := (s.format f).contentSum (f.val + 1) },
                .one .accepted (bigEndian 2 ((s.format f).contentSum (f.val + 1))))
            else
              (s.setFormat f fun x => { x with state := .invalid, storedSum := (s.format f).contentSum (f.val + 1) },
                .one .checkFail (bigEndian 2 ((s.format f).contentSum (f.val + 1)))) := by
  rw [formatCommitOwner, formatId?_number] <;> rfl

/-- Settles O31: the first group that fails answers; past both the sum decides. -/
theorem formatCommitByTheGroups : Obligations.FormatCommitByTheGroups := by
  intro src tag sum f s htakes run answer old fields timings computed named
  have hservice : service (.formatCommit src tag (BitVec.ofNat 8 (f.val + 1)) sum) =
    some ⟨src, 7, tag, fun _ => 1, formatCommitOwner (BitVec.ofNat 8 (f.val + 1)) sum, false⟩ := rfl
  have howner := formatCommitOwner_number f sum (s.serving 1)
  refine ⟨fun hstate => ?_, fun hopen => ?_⟩
  · exact exec_answered hservice htakes (howner.trans (if_pos hstate)) rfl Bool.noConfusion
  replace howner := howner.trans (if_neg (not_not.2 hopen))
  have hnamed (n : Nat) (x : Subject) : named (n + 1) x = failureResults (1 + n) x := by
    rw [Nat.add_comm 1]
    exact (failureResults_eq _ _).symm
  refine ⟨?_, fun hfields => ⟨?_, fun htimings => ?_⟩⟩
  · intro passed subjects rest hsplit hpassed hfail
    have hfirst : firstFailure 1 fields = some (1 + passed.length, subjects) := by
      rw [hsplit]
      exact firstFailure_found hfail rest passed 1 hpassed
    rw [show firstFailure 1 (fieldChecks (s.serving 1).store ((s.serving 1).format f)) = _ from hfirst] at howner
    refine ⟨_, pickSubject_mem (s.serving 1).choose.1 hfail, ?_⟩
    rw [hnamed]
    exact exec_answered (t := { s with free := s.free + 1 }) hservice htakes howner rfl Bool.noConfusion
  all_goals
    rw [show firstFailure 1 (fieldChecks (s.serving 1).store ((s.serving 1).format f)) = none from
      firstFailure_none fields 1 hfields] at howner
  · intro passed subjects rest hsplit hpassed hfail
    have hfirst : firstFailure 1 timings = some (1 + passed.length, subjects) := by
      rw [hsplit]
      exact firstFailure_found hfail rest passed 1 hpassed
    dsimp only at howner
    rw [show firstFailure 1 (timingChecks (s.serving 1).store (s.serving 1).settings.deliveryOffset
      ((s.serving 1).format f)) = _ from hfirst] at howner
    refine ⟨_, pickSubject_mem (s.serving 1).choose.1 hfail, ?_⟩
    rw [hnamed]
    exact exec_answered (t := { s with free := s.free + 1 }) hservice htakes howner rfl Bool.noConfusion
  · dsimp only at howner
    rw [show firstFailure 1 (timingChecks (s.serving 1).store (s.serving 1).settings.deliveryOffset
      ((s.serving 1).format f)) = none from firstFailure_none timings 1 htimings] at howner
    have hother (g : Fin 16) (hg : g ≠ f) (x : Format → Format) : (s.setFormat f x).format g = s.format g :=
      (State.setFormat_format f g x s).trans (if_neg hg)
    have hsame (x : Format → Format) : (s.setFormat f x).format f = x (s.format f) :=
      (State.setFormat_format f f x s).trans (if_pos rfl)
    by_cases hsum : computed = sum.toNat
    · rw [if_pos hsum, if_pos hsum]
      exact ⟨s.setFormat f fun x => { x with state := .valid, storedSum := computed },
        exec_answered hservice htakes (howner.trans (if_pos hsum)) rfl Bool.noConfusion, rfl, fun g hg => hother g hg _,
        hsame _⟩
    · rw [if_neg hsum, if_neg hsum]
      exact ⟨s.setFormat f fun x => { x with state := .invalid, storedSum := computed },
        exec_answered hservice htakes (howner.trans (if_neg hsum)) rfl Bool.noConfusion, rfl, fun g hg => hother g hg _,
        hsame _⟩

end Sys2Proof.Machine

/-! ## Settled: the items of FORMAT_LOAD, read by their ranges and applied one by one -/

namespace Sys2Proof.Machine

/-! ### Reading an item (R28, R179) -/

theorem readItem_parameter {i : LoadItem} (h : i.kind.toNat = 1) :
    readItem i = if parameterFits i.b1.toNat (quad i.b2 i.b3 i.b4 i.b5).toNat then
      some (.parameter i.b1.toNat (quad i.b2 i.b3 i.b4 i.b5).toNat) else none := by
  unfold readItem
  rw [h]
  rfl

theorem readItem_class {i : LoadItem} (h : i.kind.toNat = 2) :
    readItem i = classItem i.b1.toNat i.b2.toNat (half i.b3 i.b4).toNat (half i.b5 i.b6).toNat := by
  unfold readItem
  rw [h]
  rfl

theorem readItem_window {i : LoadItem} (h : i.kind.toNat = 3) :
    readItem i = windowItem i.b1.toNat i.b2.toNat (half i.b3 i.b4).toNat (half i.b5 i.b6).toNat := by
  unfold readItem
  rw [h]
  rfl

theorem readItem_check {i : LoadItem} (h : i.kind.toNat = 4) :
    readItem i = checkItem i.b1.toNat i.b2.toNat (half i.b3 i.b4).toNat (half i.b5 i.b6).toNat i.b7.toNat i.b8.toNat := by
  unfold readItem
  rw [h]
  rfl

theorem readItem_odd {i : LoadItem} (h : i.kind.toNat = 0 ∨ 4 < i.kind.toNat) : readItem i = none := by
  unfold readItem
  split
  case h_5 => rfl
  all_goals omega

theorem index?_val {n x : Nat} {i : Fin n} (h : index? n x = some i) : x = i.val := by
  unfold index? at h
  split at h
  · exact congrArg Fin.val (Option.some.inj h)
  · cases h

/-- The numbered parameters and their ranges (R179). -/
def parameterRanges : List (Nat × Nat × Nat) :=
  [(1, 1, 15), (2, 0, 16777215), (3, 0, 4095), (4, 16, 1024), (6, 1, 255), (7, 1, 1023), (8, 1, 1023), (9, 0, 16),
    (10, 1, 64), (11, 0, 512), (12, 1, 15), (13, 0, 63), (14, 0, 63), (15, 0, 1)]

theorem parameterFits_iff (number value : Nat) :
    parameterFits number value = true ↔ ∃ r ∈ parameterRanges, r.1 = number ∧ r.2.1 ≤ value ∧ value ≤ r.2.2 := by
  by_cases hsmall : number < 16
  · interval_cases number <;> simp [parameterFits, parameterRanges, Nat.lt_succ_iff]
  · have hodd : parameterFits number value = false := by
      unfold parameterFits
      split
      case h_15 => rfl
      all_goals omega
    rw [hodd]
    refine iff_of_false Bool.false_ne_true ?_
    rintro ⟨r, hr, rfl, -⟩
    have hnumber : ∀ r ∈ parameterRanges, r.1 < 16 := by decide
    exact hsmall (hnumber r hr)

/-- A class item is read as the absence of a class or as its widths. -/
theorem classItem_iff (variant present min max : Nat) (l : Load) :
    classItem variant present min max = some l ↔ ∃ v : Fin 4, v.val = variant ∧
      (present = 0 ∨ (present = 1 ∧ 1 ≤ min ∧ min ≤ max ∧ max ≤ 2047)) ∧
      l = .markClass v (if present = 0 then none else some ⟨min, max⟩) := by
  by_cases hv : variant < 4
  · have hindex := index?_of_lt (n := 4) ⟨variant, hv⟩ rfl
    have hexists (p : Fin 4 → Prop) : (∃ v : Fin 4, v.val = variant ∧ p v) ↔ p ⟨variant, hv⟩ :=
      ⟨fun ⟨v, h, hp⟩ => by obtain rfl : v = ⟨variant, hv⟩ := Fin.ext h; exact hp, fun hp => ⟨_, rfl, hp⟩⟩
    rw [hexists, classItem, hindex]
    match present with
    | 0 => simp [yesNo?, eq_comm]
    | 1 =>
      simp only [yesNo?, one_ne_zero, false_or, true_and, if_false, Option.ite_none_right_eq_some, Option.some.injEq]
      exact and_congr_right fun _ => eq_comm
    | n + 2 => simp [yesNo?]
  · rw [classItem, index?_of_le (Nat.not_lt.1 hv)]
    refine iff_of_false (by simp) ?_
    rintro ⟨v, h, -⟩
    omega

/-- A window item is read as its entry. -/
theorem windowItem_iff (variant channel on off : Nat) (l : Load) :
    windowItem variant channel on off = some l ↔ ∃ (v : Fin 4) (c : Fin 24), v.val = variant ∧ c.val = channel ∧
      (on ≤ 4095 ∧ off ≤ 4095 ∧ on ≠ off) ∧ l = .window v ⟨c, on, off⟩ := by
  constructor
  · intro h
    unfold windowItem at h
    split at h
    · next v c hv hc =>
      obtain ⟨hrange, hl⟩ := Option.ite_none_right_eq_some.1 h
      exact ⟨v, c, (index?_val hv).symm, (index?_val hc).symm, hrange, (Option.some.inj hl).symm⟩
    · cases h
  · rintro ⟨v, c, rfl, rfl, hrange, rfl⟩
    unfold windowItem
    rw [index?_of_lt v rfl, index?_of_lt c rfl]
    exact if_pos hrange

theorem expectation?_iff (n : Nat) (e : Expectation) :
    expectation? n = some e ↔ n ≤ 1 ∧ e = if n = 1 then .present else .absent := by
  match n with
  | 0 => simp [expectation?, eq_comm]
  | 1 => simp [expectation?, eq_comm]
  | n + 2 => simp [expectation?]

theorem paired?_iff (x : Nat) (p : Option (Fin 24)) :
    paired? x = some p ↔ (x ≤ 23 ∨ x = 255) ∧ p.map Fin.val = if x = 255 then none else some x := by
  unfold paired?
  by_cases h255 : x = 255
  · subst h255
    cases p <;> simp
  · rw [if_neg h255, if_neg h255]
    by_cases hx : x < 24
    · rw [index?_of_lt (n := 24) ⟨x, hx⟩ rfl]
      cases p with
      | none => simp
      | some c => simp [Fin.ext_iff, eq_comm, show x ≤ 23 by omega]
    · rw [index?_of_le (Nat.not_lt.1 hx)]
      simp only [Option.map_none, reduceCtorEq, false_iff]
      omega

/-- A check item is read as its entry. -/
theorem checkItem_iff (variant input start stop expect paired : Nat) (l : Load) :
    checkItem variant input start stop expect paired = some l ↔
      ∃ (v : Fin 4) (k : Fin 16) (p : Option (Fin 24)), v.val = variant ∧ k.val = input ∧
        (start ≤ stop ∧ stop ≤ 4095) ∧ expect ≤ 1 ∧ (paired ≤ 23 ∨ paired = 255) ∧
        (p.map Fin.val = if paired = 255 then none else some paired) ∧
        l = .check v ⟨k, start, stop, if expect = 1 then .present else .absent, p⟩ := by
  constructor
  · intro h
    unfold checkItem at h
    split at h
    · next v k e p hv hk he hp =>
      obtain ⟨hrange, hl⟩ := Option.ite_none_right_eq_some.1 h
      obtain ⟨hexpect, rfl⟩ := (expectation?_iff _ _).1 he
      obtain ⟨hpaired, hval⟩ := (paired?_iff _ _).1 hp
      exact ⟨v, k, p, (index?_val hv).symm, (index?_val hk).symm, hrange, hexpect, hpaired, hval, (Option.some.inj hl).symm⟩
    · cases h
  · rintro ⟨v, k, p, rfl, rfl, hrange, hexpect, hpaired, hval, rfl⟩
    unfold checkItem
    rw [index?_of_lt v rfl, index?_of_lt k rfl, (expectation?_iff _ _).2 ⟨hexpect, rfl⟩, (paired?_iff _ _).2 ⟨hpaired, hval⟩]
    exact if_pos hrange

/-! ### An entry put into an ascending list (R24, R28, R30) -/

/-- An entry that replaces the one of its key, or joins in ascending order of the keys. -/
def insertAt {α κ : Type} [LinearOrder κ] (key : α → κ) (x : α) : List α → List α
  | [] => [x]
  | y :: rest =>
    if key y = key x then x :: rest
    else if key x < key y then x :: y :: rest
    else y :: insertAt key x rest

theorem insertWindow_eq (w : WindowEntry) (l : List WindowEntry) : insertWindow w l = insertAt WindowEntry.channel w l := by
  induction l with
  | nil => rfl
  | cons y rest ih => rw [insertWindow, insertAt, ih]

theorem insertCheck_eq (k : CheckEntry) (l : List CheckEntry) : insertCheck k l = insertAt CheckEntry.input k l := by
  induction l with
  | nil => rfl
  | cons y rest ih => rw [insertCheck, insertAt, ih]

section InsertAt

variable {α κ : Type} [LinearOrder κ] (key : α → κ)

theorem find?_insertAt_same (x : α) (l : List α) : (insertAt key x l).find? (fun y => key y == key x) = some x := by
  induction l with
  | nil => simp [insertAt]
  | cons y rest ih =>
    unfold insertAt
    split
    · simp
    · next hne =>
      split
      · simp
      · rw [List.find?_cons_of_neg (by simpa using hne), ih]

theorem find?_insertAt_other {c : κ} {x : α} (hc : c ≠ key x) (l : List α) :
    (insertAt key x l).find? (fun y => key y == c) = l.find? fun y => key y == c := by
  have hx : ¬(key x == c) = true := by simpa using hc.symm
  induction l with
  | nil => simp [insertAt, hx]
  | cons y rest ih =>
    unfold insertAt
    split
    · next heq =>
      rw [List.find?_cons_of_neg (p := fun y => key y == c) hx,
        List.find?_cons_of_neg (p := fun y => key y == c) (by rw [heq]; exact hx)]
    · split
      · rw [List.find?_cons_of_neg (p := fun y => key y == c) hx]
      · rw [List.find?_cons, List.find?_cons, ih]

theorem mem_insertAt {x y : α} {l : List α} (h : y ∈ insertAt key x l) : y = x ∨ y ∈ l := by
  induction l with
  | nil => simpa [insertAt] using h
  | cons z rest ih =>
    unfold insertAt at h
    split at h
    · exact (List.mem_cons.1 h).imp_right (List.mem_cons_of_mem z)
    · split at h
      · exact List.mem_cons.1 h
      · rcases List.mem_cons.1 h with rfl | hy
        · exact .inr (List.mem_cons_self ..)
        · exact (ih hy).imp_right (List.mem_cons_of_mem z)

theorem insertAt_ascending (x : α) {l : List α} (h : l.Pairwise fun a b => key a < key b) :
    (insertAt key x l).Pairwise fun a b => key a < key b := by
  induction l with
  | nil => simp [insertAt]
  | cons y rest ih =>
    obtain ⟨hy, hrest⟩ := List.pairwise_cons.1 h
    unfold insertAt
    split
    · next heq => exact List.pairwise_cons.2 ⟨fun z hz => heq ▸ hy z hz, hrest⟩
    · next hne =>
      split
      · next hlt =>
        refine List.pairwise_cons.2 ⟨fun z hz => ?_, h⟩
        rcases List.mem_cons.1 hz with rfl | hz
        · exact hlt
        · exact hlt.trans (hy z hz)
      · next hge =>
        refine List.pairwise_cons.2 ⟨fun z hz => ?_, ih hrest⟩
        rcases mem_insertAt key hz with rfl | hz
        · exact lt_of_le_of_ne (not_lt.1 hge) hne
        · exact hy z hz

/-- A new key makes an ascending list one longer, a known one leaves its length. -/
theorem length_insertAt (x : α) {l : List α} (h : l.Pairwise fun a b => key a < key b) :
    (insertAt key x l).length =
      if (l.find? fun y => key y == key x).isSome then l.length else l.length + 1 := by
  induction l with
  | nil => rfl
  | cons y rest ih =>
    obtain ⟨hy, hrest⟩ := List.pairwise_cons.1 h
    unfold insertAt
    split
    · next heq => simp [heq]
    · next hne =>
      have hhead : ¬(key y == key x) = true := by simpa using hne
      rw [List.find?_cons_of_neg (p := fun z => key z == key x) hhead]
      split
      · next hlt =>
        have hnone : rest.find? (fun y => key y == key x) = none := List.find?_eq_none.2 fun z hz => by
          simpa using (hlt.trans (hy z hz)).ne'
        rw [hnone]
        rfl
      · rw [List.length_cons, ih hrest, List.length_cons]
        split <;> rfl

end InsertAt

/-! ### What an item changes (R28) -/

/-- The programs of a format with one of them changed. -/
def Format.withProgram (f : Format) (v : Fin 4) (g : Program → Program) : Format :=
  { f with programs := updateAt f.programs v g }

theorem Format.withProgram_program (f : Format) (v u : Fin 4) (g : Program → Program) :
    (f.withProgram v g).program u = if u = v then g (f.program v) else f.program u := updateAt_get f.programs v u g

theorem Format.programs_toList (f : Format) : f.programs.toList = variants.map f.program := by
  refine List.ext_getElem (by simp [variants]) fun n hn hn' => ?_
  have hfour : n < 4 := by simpa using hn
  interval_cases n <;> rfl

theorem Format.windowCount_eq (f : Format) : f.windowCount = (f.programs.toList.map fun p => p.windows.length).sum := by
  rw [f.programs_toList]
  simp [Format.windowCount, Format.allWindows, variants]

theorem Format.checkCount_eq (f : Format) : f.checkCount = (f.programs.toList.map fun p => p.checks.length).sum := by
  rw [f.programs_toList]
  simp [Format.checkCount, Format.allChecks, variants]

theorem Format.withProgram_windowCount (f : Format) (v : Fin 4) (g : Program → Program) :
    (f.withProgram v g).windowCount + (f.program v).windows.length =
      f.windowCount + (g (f.program v)).windows.length := by
  rw [Format.windowCount_eq, Format.windowCount_eq]
  exact updateAt_sum (fun p : Program => p.windows.length) f.programs v g

theorem Format.withProgram_checkCount (f : Format) (v : Fin 4) (g : Program → Program) :
    (f.withProgram v g).checkCount + (f.program v).checks.length = f.checkCount + (g (f.program v)).checks.length := by
  rw [Format.checkCount_eq, Format.checkCount_eq]
  exact updateAt_sum (fun p : Program => p.checks.length) f.programs v g

theorem requiredBits (n : Nat) (c : Fin 24) : (BitVec.ofNat 24 n).getLsbD c.val = decide (n / 2 ^ c.val % 2 = 1) := by
  rw [BitVec.getLsbD_ofNat, Nat.testBit_eq_decide_div_mod_eq, decide_eq_true c.isLt, Bool.true_and]

theorem Format.load_window (f : Format) (v : Fin 4) (w : WindowEntry) :
    f.load (.window v w) = f.withProgram v fun p => { p with windows := insertAt WindowEntry.channel w p.windows } := by
  show { f with programs := updateAt f.programs v fun p => { p with windows := insertWindow w p.windows } } = _
  simp only [insertWindow_eq]
  rfl

theorem Format.load_check (f : Format) (v : Fin 4) (k : CheckEntry) :
    f.load (.check v k) = f.withProgram v fun p => { p with checks := insertAt CheckEntry.input k p.checks } := by
  show { f with programs := updateAt f.programs v fun p => { p with checks := insertCheck k p.checks } } = _
  simp only [insertCheck_eq]
  rfl

/-- Settles O30: the ranges and the reading of each kind of item, then what each changes. -/
theorem loadItemsByRangeAndEffect : Obligations.LoadItemsByRangeAndEffect := by
  refine ⟨?_, ?_, ?_⟩
  · intro i value first second ranges
    have hsome (o : Option Load) : o.isSome = true ↔ ∃ l, o = some l := Option.isSome_iff_exists
    refine ⟨fun h => ?_, fun h => ?_, fun h => ?_, fun h => ?_, readItem_odd, ?_⟩
    · rw [readItem_parameter h]
      refine Iff.trans ?_ (parameterFits_iff _ _)
      split
      · next hfits => exact iff_of_true rfl hfits
      · next hnot => exact iff_of_false Bool.false_ne_true hnot
    · rw [readItem_class h, hsome]
      simp only [classItem_iff]
      constructor
      · rintro ⟨l, v, hv, hrange, -⟩
        exact ⟨by omega, hrange⟩
      · rintro ⟨hv, hrange⟩
        exact ⟨_, ⟨i.b1.toNat, by omega⟩, rfl, hrange, rfl⟩
    · rw [readItem_window h, hsome]
      simp only [windowItem_iff]
      constructor
      · rintro ⟨l, v, c, hv, hc, hrange, -⟩
        exact ⟨by omega, by omega, hrange⟩
      · rintro ⟨hv, hc, hrange⟩
        exact ⟨_, ⟨i.b1.toNat, by omega⟩, ⟨i.b2.toNat, by omega⟩, rfl, rfl, hrange, rfl⟩
    · rw [readItem_check h, hsome]
      simp only [checkItem_iff]
      constructor
      · rintro ⟨l, v, k, p, hv, hk, ⟨hstart, hstop⟩, hexpect, hpaired, -⟩
        exact ⟨by omega, by omega, hstart, hstop, hexpect, hpaired⟩
      · rintro ⟨hv, hk, hstart, hstop, hexpect, hpaired⟩
        have hpair : ∃ p : Option (Fin 24), p.map Fin.val = if i.b8.toNat = 255 then none else some i.b8.toNat := by
          by_cases h255 : i.b8.toNat = 255
          · exact ⟨none, by rw [if_pos h255]; rfl⟩
          · exact ⟨some ⟨i.b8.toNat, by omega⟩, by rw [if_neg h255]; rfl⟩
        obtain ⟨p, hp⟩ := hpair
        exact ⟨_, ⟨i.b1.toNat, by omega⟩, ⟨i.b2.toNat, by omega⟩, p, rfl, rfl, ⟨hstart, hstop⟩, hexpect, hpaired, hp, rfl⟩
    · intro l hl
      refine ⟨fun h => ?_, fun h => ?_, fun h => ?_, fun h => ?_⟩
      · rw [readItem_parameter h] at hl
        exact (Option.some.inj (Option.ite_none_right_eq_some.1 hl).2).symm
      · rw [readItem_class h, classItem_iff] at hl
        obtain ⟨v, hv, -, rfl⟩ := hl
        exact ⟨v, hv, rfl⟩
      · rw [readItem_window h, windowItem_iff] at hl
        obtain ⟨v, c, hv, hc, -, rfl⟩ := hl
        exact ⟨v, c, hv, hc, rfl⟩
      · rw [readItem_check h, checkItem_iff] at hl
        obtain ⟨v, k, p, hv, hk, -, -, -, hp, rfl⟩ := hl
        exact ⟨v, k, p, hv, hk, hp, rfl⟩
  · intro f n
    exact ⟨rfl, rfl, rfl, rfl, rfl, rfl, rfl, rfl, rfl, rfl, rfl, rfl, rfl, BitVec.ofNat 24 n, rfl, requiredBits n⟩
  · intro f v
    refine ⟨?_, ?_, ?_⟩
    · intro w g
      have hg : g = f.withProgram v fun p => { p with windows := insertAt WindowEntry.channel w p.windows } :=
        f.load_window v w
      have hprogram : g.program v = { f.program v with windows := insertAt WindowEntry.channel w (f.program v).windows } := by
        rw [hg, Format.withProgram_program, if_pos rfl]
      refine ⟨rfl, fun u hu => ?_, by rw [hprogram], ?_, fun c hc => ?_, fun hascending => ⟨?_, ?_⟩⟩
      · rw [hg, Format.withProgram_program, if_neg hu]
      · rw [hprogram]
        exact find?_insertAt_same WindowEntry.channel w _
      · rw [hprogram]
        exact find?_insertAt_other WindowEntry.channel hc _
      · rw [hprogram]
        exact insertAt_ascending WindowEntry.channel w hascending
      · have hcount := f.withProgram_windowCount v fun p =>
          { p with windows := insertAt WindowEntry.channel w p.windows }
        rw [← hg, length_insertAt WindowEntry.channel w hascending] at hcount
        show g.windowCount = if ((f.program v).windows.find? fun x => x.channel == w.channel).isSome then _ else _
        split at hcount
        · next hin => rw [if_pos hin]; omega
        · next hout => rw [if_neg hout]; omega
    · intro k g
      have hg : g = f.withProgram v fun p => { p with checks := insertAt CheckEntry.input k p.checks } := f.load_check v k
      have hprogram : g.program v = { f.program v with checks := insertAt CheckEntry.input k (f.program v).checks } := by
        rw [hg, Format.withProgram_program, if_pos rfl]
      refine ⟨rfl, fun u hu => ?_, by rw [hprogram], ?_, fun i hi => ?_, fun hascending => ⟨?_, ?_⟩⟩
      · rw [hg, Format.withProgram_program, if_neg hu]
      · rw [hprogram]
        exact find?_insertAt_same CheckEntry.input k _
      · rw [hprogram]
        exact find?_insertAt_other CheckEntry.input hi _
      · rw [hprogram]
        exact insertAt_ascending CheckEntry.input k hascending
      · have hcount := f.withProgram_checkCount v fun p => { p with checks := insertAt CheckEntry.input k p.checks }
        rw [← hg, length_insertAt CheckEntry.input k hascending] at hcount
        show g.checkCount = if ((f.program v).checks.find? fun x => x.input == k.input).isSome then _ else _
        split at hcount
        · next hin => rw [if_pos hin]; omega
        · next hout => rw [if_neg hout]; omega
    · intro c g
      exact ⟨rfl, Vector.getElem_set_self v.isLt, fun u hu => Vector.getElem_set_ne v.isLt u.isLt fun e => hu (Fin.ext e.symm)⟩

end Sys2Proof.Machine

/-! ## Settled: what the checks of a commit ask, and the content sum -/

namespace Sys2Proof.Machine

/-! ### Lists of failures -/

theorem failIf_nil {p : Bool} {l : List Subject} (h : l ≠ []) : failIf p l = [] ↔ ¬p = true := by
  cases p <;> simp [failIf, h]

/-- A check over the entries a condition picks, each named by a subject. -/
theorem picked_nil {α : Type} (p : α → Bool) (g : α → Subject) (l : List α) :
    (l.filter p).map g = [] ↔ ∀ x ∈ l, ¬p x = true := by
  rw [List.map_eq_nil_iff, List.filter_eq_nil_iff]

theorem picked_mem {α : Type} {p : α → Bool} {g : α → Subject} {l : List α} {x : Subject}
    (h : x ∈ (l.filter p).map g) : ∃ y ∈ l, p y = true ∧ x = g y := by
  obtain ⟨y, hy, rfl⟩ := List.mem_map.1 h
  exact ⟨y, (List.mem_filter.1 hy).1, (List.mem_filter.1 hy).2, rfl⟩

theorem Format.allWindows_mem (f : Format) (v : Fin 4) (w : WindowEntry) :
    (v, w) ∈ f.allWindows ↔ w ∈ (f.program v).windows := by
  simp [Format.allWindows, variants_mem]

theorem Format.allChecks_mem (f : Format) (v : Fin 4) (k : CheckEntry) :
    (v, k) ∈ f.allChecks ↔ k ∈ (f.program v).checks := by
  simp [Format.allChecks, variants_mem]

/-- A check over the window entries a condition picks. -/
theorem Format.pickedWindows_nil (f : Format) (p : Fin 4 × WindowEntry → Bool) (g : Fin 4 × WindowEntry → Subject) :
    (f.allWindows.filter p).map g = [] ↔ ∀ v, ∀ w ∈ (f.program v).windows, ¬p (v, w) = true := by
  rw [picked_nil]
  exact ⟨fun h v w hw => h (v, w) ((f.allWindows_mem v w).2 hw), fun h x hx => h x.1 x.2 ((f.allWindows_mem _ _).1 hx)⟩

theorem Format.pickedWindows_mem {f : Format} {p : Fin 4 × WindowEntry → Bool} {g : Fin 4 × WindowEntry → Subject}
    {x : Subject} (h : x ∈ (f.allWindows.filter p).map g) :
    ∃ v, ∃ w ∈ (f.program v).windows, x = g (v, w) ∧ p (v, w) = true := by
  obtain ⟨⟨v, w⟩, hw, hp, rfl⟩ := picked_mem h
  exact ⟨v, w, (f.allWindows_mem v w).1 hw, rfl, hp⟩

/-- A check over the check entries a condition picks. -/
theorem Format.pickedChecks_nil (f : Format) (p : Fin 4 × CheckEntry → Bool) (g : Fin 4 × CheckEntry → Subject) :
    (f.allChecks.filter p).map g = [] ↔ ∀ v, ∀ k ∈ (f.program v).checks, ¬p (v, k) = true := by
  rw [picked_nil]
  exact ⟨fun h v k hk => h (v, k) ((f.allChecks_mem v k).2 hk), fun h x hx => h x.1 x.2 ((f.allChecks_mem _ _).1 hx)⟩

theorem Format.pickedChecks_mem {f : Format} {p : Fin 4 × CheckEntry → Bool} {g : Fin 4 × CheckEntry → Subject}
    {x : Subject} (h : x ∈ (f.allChecks.filter p).map g) :
    ∃ v, ∃ k ∈ (f.program v).checks, x = g (v, k) ∧ p (v, k) = true := by
  obtain ⟨⟨v, k⟩, hk, hp, rfl⟩ := picked_mem h
  exact ⟨v, k, (f.allChecks_mem v k).1 hk, rfl, hp⟩

/-! ### Classes and station channels (R32) -/

theorem Channel.configured_iff (c : Channel) : (!c.configured) = true ↔ c.source = .disabled := by
  cases h : c.source <;> simp [Channel.configured, h]

theorem Format.presentClasses_mem (f : Format) (v : Fin 4) (c : MarkClass) :
    (v, c) ∈ f.presentClasses ↔ f.classes.get v = some c := by
  simp [Format.presentClasses, variants_mem]

theorem Format.overlaps_nil (f : Format) :
    f.overlaps = [] ↔ ∀ u v c d, u ≠ v → f.classes.get u = some c → f.classes.get v = some d →
      c.max < d.min ∨ d.max < c.min := by
  simp only [Format.overlaps, List.flatMap_eq_nil_iff, List.filterMap_eq_nil_iff, Prod.forall, Format.presentClasses_mem]
  constructor
  · intro h u v c d hne hu hv
    have hclash := h u c hu v d hv
    rw [ite_eq_right_iff] at hclash
    by_contra hover
    exact absurd (hclash ⟨hne.symm, by omega, by omega⟩) (by simp)
  · intro h v c hv u d hu
    refine if_neg fun hclash => ?_
    rcases h v u c d hclash.1.symm hv hu with hlt | hlt <;> omega

theorem Store.stationAbsent_nil (st : Store) (fn : ActFunction) :
    st.stationAbsent fn = [] ↔ ∃ c, (st.channels.get c).function = fn ∧ ¬(st.channels.get c).source = .disabled := by
  have hany : ((channelIds.filter fun c => (st.channels.get c).function == fn).any fun c => (st.channels.get c).configured) =
      true ↔ ∃ c, (st.channels.get c).function = fn ∧ ¬(st.channels.get c).source = .disabled := by
    simp [List.any_eq_true, channelIds_mem, Channel.configured]
  rw [← hany, Store.stationAbsent]
  split
  · next h => exact iff_of_true rfl h
  · next h => exact iff_of_false (by simp) h

/-- The channel has one entry, the same in every present program. -/
def Format.Same (f : Format) (c : Fin 24) : Prop :=
  ∃ on off, ∀ v, (f.program v).windows ≠ [] ∨ (f.program v).checks ≠ [] → (f.program v).window? c = some ⟨c, on, off⟩

theorem Format.same_iff (f : Format) (c : Fin 24) :
    f.Same c ↔ f.presentVariants = [] ∨ (f.commonWindow c).isSome = true := by
  simp only [Format.Same, ← Program.present_iff, ← Format.presentVariants_mem]
  constructor
  · rintro ⟨on, off, h⟩
    by_cases hnone : f.presentVariants = []
    · exact .inl hnone
    · exact .inr (Option.isSome_iff_exists.2 ⟨_, (f.commonWindow_iff c _).2 ⟨hnone, h⟩⟩)
  · rintro (hnone | hsome)
    · exact ⟨0, 0, fun v hv => by rw [hnone] at hv; cases hv⟩
    · obtain ⟨⟨channel, on, off⟩, hw⟩ := Option.isSome_iff_exists.1 hsome
      obtain ⟨hne, hall⟩ := (f.commonWindow_iff c _).1 hw
      obtain ⟨v, hv⟩ := List.exists_mem_of_ne_nil _ hne
      obtain rfl : channel = c := Program.window?_channel (hall v hv)
      exact ⟨on, off, hall⟩

/-- An entry of a program makes that program present, so a channel without a common entry differs. -/
theorem Format.commonWindow_isNone {f : Format} {v : Fin 4} {w : WindowEntry} (c : Fin 24)
    (hw : w ∈ (f.program v).windows) : (f.commonWindow c).isNone = true ↔ ¬f.Same c := by
  have hne : f.presentVariants ≠ [] :=
    List.ne_nil_of_mem (Format.presentVariants_mem.2 ((Program.present_iff _).2 (.inl (List.ne_nil_of_mem hw))))
  rw [f.same_iff, or_iff_right hne]
  cases f.commonWindow c <;> simp

theorem Format.stationFailures_nil (f : Format) (c : Fin 24) : f.stationFailures c = [] ↔ f.Same c := by
  have htest : (f.presentVariants.isEmpty || (f.commonWindow c).isSome) = true ↔ f.Same c := by
    rw [f.same_iff, Bool.or_eq_true, List.isEmpty_iff]
  rw [← htest, Format.stationFailures]
  split
  · next h => exact iff_of_true rfl h
  · next h => exact iff_of_false (by simp [Format.stationSubjects]) h

/-- Where a channel has one entry, its on angle is the station's. -/
theorem Format.stationOn_same {f : Format} {c : Fin 24} (h : f.Same c) {v : Fin 4} {w : WindowEntry}
    (hw : (f.program v).window? c = some w) : f.stationOn c = w.on := by
  obtain ⟨on, off, hall⟩ := h
  have hv := Program.present_of_window (p := f.program v) (c := c) (by rw [hw]; rfl)
  have hentry : ∀ x ∈ f.presentVariants.filterMap fun v => (f.program v).window? c, x = ⟨c, on, off⟩ := by
    intro x hx
    obtain ⟨u, hu, hx⟩ := List.mem_filterMap.1 hx
    have hu' := hall u ((Program.present_iff _).1 (Format.presentVariants_mem.1 hu))
    exact (Option.some.inj (hu'.symm.trans hx)).symm
  have hmem : w ∈ f.presentVariants.filterMap fun v => (f.program v).window? c :=
    List.mem_filterMap.2 ⟨v, Format.presentVariants_mem.2 hv, hw⟩
  unfold Format.stationOn
  rw [hentry w hmem]
  rcases hlist : f.presentVariants.filterMap fun v => (f.program v).window? c with _ | ⟨x, rest⟩
  · rw [hlist] at hmem
    cases hmem
  · rw [hlist] at hentry
    rw [List.head?_cons, hentry x (List.mem_cons_self ..)]

/-! ### The content sum (R34) -/

/-- The weight of a program in the content sum, its entries counted. -/
def Program.weight (v : Fin 4) (p : Program) : Nat :=
  (p.windows.map fun w => 1 + v.val + w.channel.val + w.on + w.off).sum +
    (p.checks.map fun k => 1 + v.val + k.input.val + k.start + k.stop +
      (if k.expect = .present then 1 else 0) + (match k.paired with | some c => c.val | none => 0)).sum

theorem Program.weight_eq (v : Fin 4) (p : Program) :
    p.weight v = p.windows.length + (p.windows.map fun w => windowValue v w).sum +
      (p.checks.length + (p.checks.map fun k => checkValue v k).sum) := by
  have hcount {α : Type} (g : α → Nat) (l : List α) : (l.map fun x => 1 + g x).sum = l.length + (l.map g).sum := by
    induction l with
    | nil => rfl
    | cons x rest ih => simp only [List.map_cons, List.sum_cons, List.length_cons, ih]; omega
  have hwindow : (fun w : WindowEntry => 1 + v.val + w.channel.val + w.on + w.off) = fun w => 1 + windowValue v w :=
    funext fun w => by simp only [windowValue]; omega
  have hcheck : (fun k : CheckEntry => 1 + v.val + k.input.val + k.start + k.stop +
      (if k.expect = .present then 1 else 0) + (match k.paired with | some c => c.val | none => 0)) =
      fun k => 1 + checkValue v k := funext fun k => by
    have hcode : k.expect.code = if k.expect = .present then 1 else 0 := by cases k.expect <;> rfl
    rw [checkValue, hcode]
    cases k.paired with
    | none => dsimp only; omega
    | some c => dsimp only; omega
  rw [Program.weight, hwindow, hcheck, hcount, hcount]

theorem Format.entriesWeight (f : Format) :
    f.windowCount + f.checkCount + (f.allWindows.map fun x => windowValue x.1 x.2).sum +
        (f.allChecks.map fun x => checkValue x.1 x.2).sum =
      (f.program 0).weight 0 + (f.program 1).weight 1 + (f.program 2).weight 2 + (f.program 3).weight 3 := by
  simp only [Format.windowCount, Format.checkCount, Format.allWindows, Format.allChecks, variants, List.flatMap_cons,
    List.flatMap_nil, List.append_nil, List.map_append, List.map_map, List.length_append, List.length_map, List.sum_append,
    Function.comp_def, Program.weight_eq]
  omega

theorem Format.classesWeight (f : Format) :
    (f.classes.toList.map MarkClass.value).sum = MarkClass.value (f.classes.get 0) + MarkClass.value (f.classes.get 1) +
      MarkClass.value (f.classes.get 2) + MarkClass.value (f.classes.get 3) := by
  have hlist : f.classes.toList = [f.classes.get 0, f.classes.get 1, f.classes.get 2, f.classes.get 3] := by
    refine List.ext_getElem (by simp) fun n hn _ => ?_
    have hfour : n < 4 := by simpa using hn
    interval_cases n <;> rfl
  rw [hlist]
  simp only [List.map_cons, List.map_nil, List.sum_cons, List.sum_nil]
  omega

/-- Settles O32: the field checks and the timing checks by what they pick, then the sum by its programs. -/
theorem commitChecksAreTheirConditions : Obligations.CommitChecksAreTheirConditions := by
  refine ⟨?_, ?_, ?_⟩
  · intro st f present off
    have hpresent (v : Fin 4) : (f.program v).present = true ↔ present v := Program.present_iff _
    have hoff (c : Fin 24) : (!(st.channels.get c).configured) = true ↔ off c := Channel.configured_iff _
    have hclass (v : Fin 4) : ((f.classes.get v).isSome != (f.program v).present) = true ↔
        ¬((f.classes.get v).isSome = true ↔ present v) := by
      rw [← hpresent, bne_iff_ne]
      exact not_congr Bool.eq_iff_iff
    have hrequired (c : Fin 24) : (f.required.getLsbD c.val && !(st.channels.get c).configured) = true ↔
        f.required.getLsbD c.val = true ∧ off c := by
      rw [Bool.and_eq_true, hoff]
    refine ⟨_, _, _, _, _, _, _, _, _, _, _, _, rfl, ?_, ?_, ?_, ?_, ?_, ?_, ?_, ?_, ?_, ?_, ?_, ?_, ?_, ?_, ?_, ?_⟩
    · rw [failIf_nil (by simp)]
      simp only [Bool.or_eq_true, decide_eq_true_eq, not_or, and_assoc]
    · rw [failIf_nil (by simp), decide_eq_true_eq, not_lt]
    · rw [failIf_nil (by simp)]
      cases f.classes.get 0 <;> simp
    · rw [← f.overlaps_nil]
      cases f.overlaps <;> simp
    · rw [picked_nil]
      simp only [hclass, not_not, variants_mem, true_implies]
    · intro x hx
      obtain ⟨v, -, hv, rfl⟩ := picked_mem hx
      exact ⟨v, rfl, (hclass v).1 hv⟩
    · rw [failIf_nil (by simp)]
      simp [List.all_eq_true, inputIds_mem]
    · rw [picked_nil]
      simp only [hrequired, channelIds_mem, true_implies, not_and]
    · intro x hx
      obtain ⟨c, -, hc, rfl⟩ := picked_mem hx
      exact ⟨c, rfl, (hrequired c).1 hc⟩
    · rw [f.pickedWindows_nil]
      simp only [hoff]
    · intro x hx
      obtain ⟨v, w, hw, rfl, hp⟩ := Format.pickedWindows_mem hx
      exact ⟨v, w, hw, rfl, (hoff _).1 hp⟩
    · rw [List.flatMap_eq_nil_iff]
      simp only [Store.stationAbsent_nil]
      rfl
    · rw [List.flatMap_eq_nil_iff]
      refine forall₂_congr fun fn _ => ?_
      cases st.channelOf fn with
      | none => simp
      | some c =>
        refine (f.stationFailures_nil c).trans ⟨fun h d hd => ?_, fun h => h c rfl⟩
        obtain rfl : c = d := Option.some.inj hd
        exact h
    · rw [f.pickedChecks_nil]
      simp
    · intro x hx
      obtain ⟨v, k, hk, rfl, hp⟩ := Format.pickedChecks_mem hx
      exact ⟨v, k, hk, rfl, by simpa using hp⟩
    · rw [List.flatMap_eq_nil_iff]
      constructor
      · intro h v k hk c hpaired
        refine Option.ne_none_iff_exists'.1 fun hnone => ?_
        have hpicked := h (v, k) (List.mem_filter.2 ⟨(f.allChecks_mem v k).2 hk, by simp [hpaired, hnone]⟩)
        exact absurd hpicked (List.cons_ne_nil _ _)
      · rintro h ⟨v, k⟩ hpicked
        obtain ⟨hk, hlacks⟩ := List.mem_filter.1 hpicked
        cases hpaired : k.paired with
        | none => simp [hpaired] at hlacks
        | some c =>
          obtain ⟨w, hw⟩ := h v k ((f.allChecks_mem v k).1 hk) c hpaired
          simp [hpaired, hw] at hlacks
  · intro st s f gate finger hgate hfinger offset issue decision g present same close late undecided skips channelNamed
    have hsame (c : Fin 24) : f.Same c ↔ same c := Iff.rfl
    have hearly (w : WindowEntry) : decide (earliestIssue (st.channels.get w.channel).offset w.on < f.decision) = true ↔
        undecided w := decide_eq_true_iff
    have hchecks : timingChecks st s f =
        [ (f.allWindows.filter fun x => decide (offset x.2.channel > s)).map fun x => channelNamed x.1 x.2,
          (f.allWindows.filter fun x => (f.commonWindow x.2.channel).isNone && decide (undecided x.2)).map fun x => channelNamed x.1 x.2,
          (f.allWindows.filter fun x => (st.channels.get x.2.channel).policy == .skipReject && decide (undecided x.2)).map
            fun x => channelNamed x.1 x.2,
          (f.allChecks.filter fun x => decide (g ≤ close x.2)).map fun x => (some x.1, some x.2.input.val),
          failIf (decide (offset gate ≥ s)) (f.stationSubjects gate),
          failIf (decide (offset finger < offset gate) || decide (offset finger > s)) (f.stationSubjects finger),
          failIf (decide (issue finger (f.stationOn finger) < (offset gate * 4096 + f.stationOn gate - 256 : Int)))
            (f.stationSubjects finger),
          failIf (decide (g < decision + 1024)) (nobody :: f.stationSubjects gate) ] := by
      unfold timingChecks
      rw [hgate, hfinger]
      rfl
    have hstation (c : Fin 24) : f.stationSubjects c ≠ [] := by simp [Format.stationSubjects]
    refine ⟨_, _, _, _, _, _, _, _, hchecks, ?_, ?_, ?_, ?_, ?_, ?_, ?_, ?_, ?_, ?_, ?_, ?_, ?_⟩
    · rw [f.pickedWindows_nil]
      simp only [decide_eq_true_eq]
      rfl
    · intro x hx
      obtain ⟨v, w, hw, rfl, hp⟩ := Format.pickedWindows_mem hx
      exact ⟨v, w, hw, rfl, of_decide_eq_true hp⟩
    · rw [f.pickedWindows_nil]
      refine forall₂_congr fun v w => forall_congr' fun hw => ?_
      rw [Bool.and_eq_true, Format.commonWindow_isNone _ hw, decide_eq_true_eq, not_and]
      rfl
    · intro x hx
      obtain ⟨v, w, hw, rfl, hp⟩ := Format.pickedWindows_mem hx
      rw [Bool.and_eq_true, Format.commonWindow_isNone _ hw, decide_eq_true_eq] at hp
      exact ⟨v, w, hw, rfl, hp⟩
    · rw [f.pickedWindows_nil]
      simp only [Bool.and_eq_true, beq_iff_eq, decide_eq_true_eq, not_and]
      rfl
    · intro x hx
      obtain ⟨v, w, hw, rfl, hp⟩ := Format.pickedWindows_mem hx
      rw [Bool.and_eq_true, beq_iff_eq, decide_eq_true_eq] at hp
      exact ⟨v, w, hw, rfl, hp⟩
    · rw [f.pickedChecks_nil]
      simp only [decide_eq_true_eq, not_le]
    · intro x hx
      obtain ⟨v, k, hk, rfl, hp⟩ := Format.pickedChecks_mem hx
      exact ⟨v, k, hk, rfl, of_decide_eq_true hp⟩
    · rw [failIf_nil (hstation gate), decide_eq_true_eq, ge_iff_le, not_le]
    · rw [failIf_nil (hstation finger), Bool.or_eq_true, decide_eq_true_eq, decide_eq_true_eq, not_or, not_lt, not_lt]
    · rw [failIf_nil (hstation finger), decide_eq_true_eq, not_lt]
    · rw [failIf_nil (by simp), decide_eq_true_eq, not_lt]
    · exact fun c hc v w hw => Format.stationOn_same hc hw
  · intro id f ofClass ofProgram
    have hclasses := f.classesWeight
    have hentries := f.entriesWeight
    have hvalue (v : Fin 4) : MarkClass.value (f.classes.get v) = ofClass v := by
      show _ = match f.classes.get v with | some c => c.min + c.max | none => 0
      cases f.classes.get v <;> rfl
    have hweight (v : Fin 4) : (f.program v).weight v = ofProgram v := rfl
    have hflag : flag 1 f.acceptUnlocked = if f.acceptUnlocked then 1 else 0 := rfl
    simp only [hvalue] at hclasses
    simp only [hweight] at hentries
    have hsum : f.contentSum id = (f.windowCount + f.checkCount + id + f.sizeClass + f.nominal + f.half + f.lockWindow +
        f.warn + f.reject + f.gain + f.stepMax + f.trimMax + f.lossLimit + f.holdoff + f.span + flag 1 f.acceptUnlocked +
        f.required.toNat + (f.classes.toList.map MarkClass.value).sum +
        (f.allWindows.map fun x => windowValue x.1 x.2).sum +
        (f.allChecks.map fun x => checkValue x.1 x.2).sum) % 65536 := rfl
    rw [hsum, hflag, hclasses]
    congr 1
    omega

end Sys2Proof.Machine

/-! ## Settled: the reads, field by field -/

namespace Sys2Proof.Machine

/-! ### Bytes made of fields (R178) -/

/-- The bytes of fields, each with its width and the value sent in it. -/
def fieldBytes : List (Nat × Nat) → List Byte
  | [] => []
  | field :: rest => bigEndian field.1 field.2 ++ fieldBytes rest

/-- The rows of fields that stand one behind the other from a byte on. -/
def fieldRows : Nat → List (Nat × Nat) → List (Nat × Nat × Nat)
  | _, [] => []
  | start, field :: rest => (start, field.1, field.2) :: fieldRows (start + field.1) rest

/-- A string of bytes carries the fields that stand in it. -/
theorem carries_fields {start : Nat} {pre : List Byte} (fields : List (Nat × Nat)) (post : List Byte)
    (h : pre.length = start) : carries (pre ++ (fieldBytes fields ++ post)) (fieldRows start fields) := by
  induction fields generalizing start pre with
  | nil => intro row hrow; cases hrow
  | cons field rest ih =>
    have hrest := ih (start := start + field.1) (pre := pre ++ bigEndian field.1 field.2)
      (by rw [List.length_append, bigEndian_length, h])
    rw [List.append_assoc, ← List.append_assoc (bigEndian field.1 field.2)] at hrest
    intro row hrow
    rcases List.mem_cons.1 hrow with rfl | hrow
    · rw [fieldBytes, List.append_assoc, fieldAt_append_right _ h.le, h, Nat.sub_self]
      exact fieldAt_bigEndian _ _ _
    · exact hrest row hrow

theorem carries_append {bytes : List Byte} {rows more : List (Nat × Nat × Nat)} (h : carries bytes rows)
    (h' : carries bytes more) : carries bytes (rows ++ more) :=
  fun row hrow => (List.mem_append.1 hrow).elim (h row) (h' row)

/-- Pieces of one length, one behind the other. -/
theorem flatMap_length_mem {α : Type} {n : Nat} {g : α → List Byte} {l : List α} (hlen : ∀ a ∈ l, (g a).length = n) :
    (l.flatMap g).length = n * l.length := by
  rw [List.length_flatMap, List.map_congr_left hlen, List.map_const', List.sum_replicate, smul_eq_mul, Nat.mul_comm]

/-- One piece of a list of pieces of one length, with what stands ahead of it. -/
theorem flatMap_at {α : Type} {n k : Nat} {g : α → List Byte} {l : List α} {a : α} (hlen : ∀ a ∈ l, (g a).length = n)
    (h : l[k]? = some a) : ∃ pre post, l.flatMap g = pre ++ (g a ++ post) ∧ pre.length = n * k := by
  obtain ⟨hk, rfl⟩ := List.getElem?_eq_some_iff.1 h
  refine ⟨(l.take k).flatMap g, (l.drop (k + 1)).flatMap g, ?_, ?_⟩
  · conv_lhs => rw [← List.take_append_drop k l, ← List.cons_getElem_drop_succ (h := hk)]
    rw [List.flatMap_append, List.flatMap_cons]
  · rw [flatMap_length_mem fun a ha => hlen a (List.mem_of_mem_take ha), List.length_take, Nat.min_eq_left hk.le]

/-- The fields of one piece of a list of pieces, behind a head. -/
theorem carries_piece {α : Type} {n k start : Nat} {g : α → List Byte} {head tail : List Byte} {l : List α} {a : α}
    (fields : List (Nat × Nat)) (hlen : ∀ a ∈ l, (g a).length = n) (ha : l[k]? = some a) (hg : ∃ rest, g a = fieldBytes fields ++ rest)
    (hstart : head.length + n * k = start) :
    carries (head ++ (l.flatMap g ++ tail)) (fieldRows start fields) := by
  obtain ⟨pre, post, hl, hpre⟩ := flatMap_at hlen ha
  obtain ⟨rest, hrest⟩ := hg
  have hbytes : head ++ (l.flatMap g ++ tail) = (head ++ pre) ++ (fieldBytes fields ++ (rest ++ (post ++ tail))) := by
    rw [hl, hrest]
    simp only [List.append_assoc]
  rw [hbytes]
  exact carries_fields fields _ (by rw [List.length_append, hpre, hstart])

theorem fieldBytes_length (fields : List (Nat × Nat)) : (fieldBytes fields).length = (fields.map Prod.fst).sum := by
  induction fields with
  | nil => rfl
  | cons field rest ih => rw [fieldBytes, List.length_append, bigEndian_length, ih, List.map_cons, List.sum_cons]

theorem vector_toList_eq {α : Type} {n : Nat} (v : Vector α n) : v.toList = (List.finRange n).map v.get := by
  refine List.ext_getElem (by simp) fun k hk _ => ?_
  simp [Vector.get_eq_getElem]

theorem vector_getElem? {α : Type} {n : Nat} (v : Vector α n) (i : Fin n) : v.toList[i.val]? = some (v.get i) := by
  simp [Vector.get_eq_getElem]

theorem variants_getElem? (v : Fin 4) : variants[v.val]? = some v := by
  fin_cases v <;> rfl

/-! ### Page 0 of FORMAT_READ (R30) -/

/-- The fields of a class on page 0. -/
def classFields (free : Nat) (c : Option MarkClass) : List (Nat × Nat) :=
  [(1, if c.isSome then 1 else 0), (2, (c.map MarkClass.min).getD (Config.absentWidth free)),
    (2, (c.map MarkClass.max).getD (Config.absentWidth (free + 1)))]

theorem classBytes_eq (free : Nat) (c : Option MarkClass) : classBytes free c = fieldBytes (classFields free c) := by
  cases c <;> simp [classBytes, classFields, fieldBytes]

theorem classBytes_length (free : Nat) (c : Option MarkClass) : (classBytes free c).length = 5 := by
  rw [classBytes_eq, fieldBytes_length]
  rfl

/-- The counts of a program on page 0. -/
def programBytes (p : Program) : List Byte := bigEndian 1 p.windows.length ++ bigEndian 1 p.checks.length

theorem programBytes_length (p : Program) : (programBytes p).length = 2 := by
  simp [programBytes, bigEndian_length]

/-- The classes and the programs of page 0. -/
def classPart (s : State) (f : Fin 16) : List Byte :=
  variants.flatMap fun v => classBytes (8 * s.free + 2 * v.val) ((s.format f).classes.get v)

def programPart (s : State) (f : Fin 16) : List Byte := (s.format f).programs.toList.flatMap programBytes

theorem classPart_length (s : State) (f : Fin 16) : (classPart s f).length = 20 :=
  (flatMap_length_const (n := 5) (fun _ => classBytes_length _ _) variants).trans rfl

theorem programPart_length (s : State) (f : Fin 16) : (programPart s f).length = 8 := by
  rw [programPart, flatMap_length_const programBytes_length, Vector.length_toList]

/-- The fields of page 0 ahead of the classes, behind them, and behind the programs. -/
def pageHead (s : State) (f : Fin 16) : List (Nat × Nat) :=
  [(1, (s.format f).state.code), (1, flag 1 (s.inUse f)), (2, (s.format f).storedSum), (1, formatNumber f),
    (1, (s.format f).sizeClass), (4, (s.format f).required.toNat), (2, (s.format f).nominal), (2, (s.format f).half)]

def pageLimits (x : Format) : List (Nat × Nat) :=
  [(1, x.lockWindow), (2, x.warn), (2, x.reject), (1, x.gain), (1, x.stepMax), (2, x.trimMax), (1, x.lossLimit),
    (1, x.holdoff), (1, x.span), (1, flag 1 x.acceptUnlocked)]

def pageRoom (st : Store) : List (Nat × Nat) := [(2, st.freeWindows), (2, st.freeChecks)]

theorem pageZero_eq (s : State) (f : Fin 16) :
    pageZero s f = fieldBytes (pageHead s f) ++ (classPart s f ++ (fieldBytes (pageLimits (s.format f)) ++
      (programPart s f ++ (fieldBytes (pageRoom s.store) ++ [])))) := by
  unfold pageZero classPart programPart
  dsimp only
  simp only [pageHead, pageLimits, pageRoom]
  simp only [fieldBytes]
  simp only [List.append_assoc, List.append_nil]
  rfl

theorem pageZero_length (s : State) (f : Fin 16) : (pageZero s f).length = 59 := by
  rw [pageZero_eq]
  simp only [List.length_append, fieldBytes_length, classPart_length, programPart_length]
  rfl

theorem pageZero_fields (s : State) (f : Fin 16) :
    carries (pageZero s f)
      (fieldRows 0 (pageHead s f) ++ (fieldRows 34 (pageLimits (s.format f)) ++ fieldRows 55 (pageRoom s.store))) := by
  have hhead : (fieldBytes (pageHead s f)).length = 14 := by simp [fieldBytes_length, pageHead]
  have hlimits : (fieldBytes (pageLimits (s.format f))).length = 13 := by simp [fieldBytes_length, pageLimits]
  rw [pageZero_eq]
  refine carries_append (carries_fields (pre := []) _ _ rfl) (carries_append ?_ ?_)
  · rw [← List.append_assoc]
    exact carries_fields _ _ (by rw [List.length_append, hhead, classPart_length])
  · rw [← List.append_assoc (classPart s f), ← List.append_assoc, ← List.append_assoc, ← List.append_assoc]
    rw [List.append_assoc _ (fieldBytes (pageRoom s.store))]
    refine carries_fields _ _ ?_
    simp only [List.length_append, hhead, hlimits, classPart_length, programPart_length]

theorem pageZero_class (s : State) (f : Fin 16) (v : Fin 4) :
    carries (pageZero s f)
      (fieldRows (14 + 5 * v.val) (classFields (8 * s.free + 2 * v.val) ((s.format f).classes.get v))) := by
  rw [pageZero_eq]
  exact carries_piece (n := 5) _ (fun _ _ => classBytes_length _ _) (variants_getElem? v)
    ⟨[], by rw [classBytes_eq, List.append_nil]⟩ (by rw [fieldBytes_length]; rfl)

theorem pageZero_program (s : State) (f : Fin 16) (v : Fin 4) :
    carries (pageZero s f) (fieldRows (47 + 2 * v.val)
      [(1, ((s.format f).program v).windows.length), (1, ((s.format f).program v).checks.length)]) := by
  rw [pageZero_eq, ← List.append_assoc, ← List.append_assoc]
  refine carries_piece (n := 2) _ (fun p _ => programBytes_length p) (vector_getElem? _ v) ⟨[], ?_⟩ ?_
  · simp only [programBytes, fieldBytes, List.append_nil]
    rfl
  · simp only [List.length_append, fieldBytes_length, classPart_length]
    rfl

/-! ### The pages of entries (R30) -/

/-- The entries of one program. -/
def Program.entryBytes (v : Fin 4) (p : Program) : List (List Byte) :=
  p.windows.map (windowBytes v) ++ p.checks.map (checkBytes v)

theorem Program.entryBytes_length (v : Fin 4) (p : Program) :
    (p.entryBytes v).length = p.windows.length + p.checks.length := by
  simp [Program.entryBytes]

/-- The entries of the programs ahead of a variant, its own, and the others. -/
theorem Format.entryList_split (f : Format) (v : Fin 4) :
    ∃ post, f.entryList = ((List.finRange 4).filter fun u => u < v).flatMap (fun u => (f.program u).entryBytes u) ++
      ((f.program v).entryBytes v ++ post) := by
  have hsplit : variants = (List.finRange 4).filter (fun u => u < v) ++ v :: (List.finRange 4).filter (fun u => v < u) := by
    revert v
    decide
  refine ⟨((List.finRange 4).filter fun u => v < u).flatMap fun u => (f.program u).entryBytes u, ?_⟩
  rw [Format.entryList]
  conv_lhs => rw [hsplit]
  rw [List.flatMap_append, List.flatMap_cons]
  rfl

/-- The place of a program's first entry in the list of R30. -/
def Format.firstEntry (f : Format) (v : Fin 4) : Nat :=
  (((List.finRange 4).filter fun u => u < v).map fun u => (f.program u).windows.length + (f.program u).checks.length).sum

theorem Format.entryList_at {f : Format} {v : Fin 4} {k : Nat} {e : List Byte} (h : ((f.program v).entryBytes v)[k]? = some e) :
    f.entryList[f.firstEntry v + k]? = some e := by
  obtain ⟨post, hsplit⟩ := f.entryList_split v
  have hlength : (((List.finRange 4).filter fun u => u < v).flatMap fun u => (f.program u).entryBytes u).length =
      f.firstEntry v := by
    rw [List.length_flatMap]
    simp only [Program.entryBytes_length]
    rfl
  have hk : k < ((f.program v).entryBytes v).length := (List.getElem?_eq_some_iff.1 h).1
  rw [hsplit, List.getElem?_append_right (by omega), hlength, Nat.add_sub_cancel_left, List.getElem?_append_left hk, h]

theorem Format.entryList_length (f : Format) : f.entryList.length =
    (f.program 0).windows.length + (f.program 0).checks.length + (f.program 1).windows.length +
      (f.program 1).checks.length + (f.program 2).windows.length + (f.program 2).checks.length +
      (f.program 3).windows.length + (f.program 3).checks.length := by
  simp only [Format.entryList, variants, List.flatMap_cons, List.flatMap_nil, List.append_nil, List.length_append,
    List.length_map]
  omega

theorem windowBytes_eq (v : Fin 4) (w : WindowEntry) : windowBytes v w =
    fieldBytes [(1, 3), (1, v.val), (1, w.channel.val), (2, w.on), (2, w.off), (2, 0)] := by
  have hzero : bigEndian 2 0 = [0, 0] := rfl
  simp only [windowBytes, fieldBytes, hzero, List.append_assoc, List.append_nil]

theorem checkBytes_eq (v : Fin 4) (k : CheckEntry) : checkBytes v k =
    fieldBytes [(1, 4), (1, v.val), (1, k.input.val), (2, k.start), (2, k.stop), (1, k.expect.code),
      (1, match k.paired with | some c => c.val | none => 255)] := by
  simp only [checkBytes, fieldBytes, List.append_assoc, List.append_nil] <;> rfl

/-- The entries of a page. -/
def State.page (s : State) (f : Fin 16) (n : Nat) : List (List Byte) :=
  ((s.format f).entryList.drop (16 * (n - 1))).take 16

theorem pageEntries_eq (s : State) (f : Fin 16) (n : Nat) :
    pageEntries s f n = fieldBytes [(1, (s.page f n).length)] ++ ((s.page f n).flatMap id ++ []) := by
  simp only [fieldBytes, List.append_nil, List.flatMap_id]
  rfl

theorem State.page_length (s : State) (f : Fin 16) (n : Nat) :
    (s.page f n).length = min 16 ((s.format f).entryList.length - 16 * (n - 1)) := by
  rw [State.page, List.length_take, List.length_drop]

theorem Format.entryList_nine (f : Format) : ∀ e ∈ f.entryList, e.length = 9 := by
  intro e he
  obtain ⟨v, -, he⟩ := List.mem_flatMap.1 he
  rcases List.mem_append.1 he with he | he
  · obtain ⟨w, -, rfl⟩ := List.mem_map.1 he
    rw [windowBytes_eq, fieldBytes_length]
    rfl
  · obtain ⟨k, -, rfl⟩ := List.mem_map.1 he
    rw [checkBytes_eq, fieldBytes_length]
    rfl

theorem State.page_nine (s : State) (f : Fin 16) (n : Nat) : ∀ e ∈ s.page f n, (id e).length = 9 := fun e he =>
  (s.format f).entryList_nine e (List.mem_of_mem_drop (List.mem_of_mem_take he))

theorem pageEntries_length (s : State) (f : Fin 16) (n : Nat) :
    (pageEntries s f n).length = 1 + 9 * min 16 ((s.format f).entryList.length - 16 * (n - 1)) := by
  rw [pageEntries_eq, List.append_nil, List.length_append, flatMap_length_mem (s.page_nine f n), State.page_length,
    fieldBytes_length]
  rfl

/-- The entry at a place of a page. -/
theorem pageEntries_at {s : State} {f : Fin 16} {v : Fin 4} {n j k : Nat} {e : List Byte} {fields : List (Nat × Nat)}
    (hj : j < 16) (he : (((s.format f).program v).entryBytes v)[k]? = some e)
    (hplace : 16 * (n - 1) + j = (s.format f).firstEntry v + k) (hfields : e = fieldBytes fields) :
    carries (pageEntries s f n) (fieldRows (1 + 9 * j) fields) := by
  have hat : (s.page f n)[j]? = some e := by
    rw [State.page, List.getElem?_take_of_lt hj, List.getElem?_drop, hplace]
    exact Format.entryList_at he
  rw [pageEntries_eq]
  refine carries_piece (n := 9) fields (s.page_nine f n) hat ⟨[], ?_⟩ ?_
  · rw [List.append_nil, id, hfields]
  · rw [fieldBytes_length]
    rfl

theorem Program.entryBytes_window {v : Fin 4} {p : Program} {k : Nat} {w : WindowEntry} (h : p.windows[k]? = some w) :
    (p.entryBytes v)[k]? = some (windowBytes v w) := by
  have hk : k < (p.windows.map (windowBytes v)).length := by
    rw [List.length_map]
    exact (List.getElem?_eq_some_iff.1 h).1
  rw [Program.entryBytes, List.getElem?_append_left hk, List.getElem?_map, h]
  rfl

theorem Program.entryBytes_check {v : Fin 4} {p : Program} {k : Nat} {e : CheckEntry} (h : p.checks[k]? = some e) :
    (p.entryBytes v)[p.windows.length + k]? = some (checkBytes v e) := by
  rw [Program.entryBytes, List.getElem?_append_right (by simp), List.length_map, Nat.add_sub_cancel_left,
    List.getElem?_map, h]
  rfl

/-! ### The room of the pool (R16) -/

theorem Store.free_eq (st : Store) :
    st.freeWindows = 512 - ((List.finRange 16).map fun g => (st.formats.get g).windowCount).sum ∧
    st.freeChecks = 256 - ((List.finRange 16).map fun g => (st.formats.get g).checkCount).sum := by
  rw [Store.freeWindows, Store.freeChecks, vector_toList_eq, List.map_map, List.map_map]
  exact ⟨rfl, rfl⟩

theorem Format.counts_eq (f : Format) :
    f.windowCount = (f.program 0).windows.length + (f.program 1).windows.length + (f.program 2).windows.length +
      (f.program 3).windows.length ∧
    f.checkCount = (f.program 0).checks.length + (f.program 1).checks.length + (f.program 2).checks.length +
      (f.program 3).checks.length := by
  simp only [Format.windowCount, Format.checkCount, Format.allWindows, Format.allChecks, variants, List.flatMap_cons,
    List.flatMap_nil, List.append_nil, List.length_append, List.length_map]
  omega

/-! ### Lot and fault records (R134, R161) -/

/-- The fields of a lot record (12.4). -/
def Lot.fields (place count : Nat) (l : Lot) (committed : Nat) : List (Nat × Nat) :=
  [(1, place), (1, count), (2, l.key.id), (1, l.key.makeUp), (1, formatNumber l.format), (4, l.target), (2, l.batchSize),
    (1, flag 1 l.makeUp), (1, l.state.code), (4, l.cut), (4, l.finalGood), (4, l.stacked), (4, l.diverted),
    (4, l.undiverted), (4, l.purged), (4, l.inFlight), (4, committed),
    (3, match l.openBatch with | some b => b.1 | none => 0), (2, match l.openBatch with | some b => b.2 | none => 0),
    (3, l.nextBatch), (3, l.completed), (2, l.delivered), (1, flag 1 l.contaminated)]

theorem Lot.bytes_eq (place count : Nat) (l : Lot) (committed : Nat) :
    l.bytes place count committed = fieldBytes (l.fields place count committed) ++ [] := by
  unfold Lot.bytes LotKey.bytes Lot.fields
  simp only [fieldBytes]
  simp only [List.append_assoc, List.append_nil]
  cases l.openBatch <;> rfl

theorem Lot.bytes_length (place count : Nat) (l : Lot) (committed : Nat) : (l.bytes place count committed).length = 60 := by
  rw [Lot.bytes_eq, List.append_nil, fieldBytes_length]
  simp [Lot.fields]

/-- The fields of a fault record ahead of its detail, and those of its detail (12.4). -/
def FaultRecord.fields (r : FaultRecord) : List (Nat × Nat) :=
  [(4, r.sequence), (1, r.kind.code), (1, r.effect.code), (1, r.line.code), (4, r.pitch)]

def Detail.fields : Detail → List (Nat × Nat)
  | .number n => [(4, (n % 4294967296).toNat)]
  | .key k => [(2, k.id), (1, k.makeUp), (1, 0)]

theorem FaultRecord.bytes_eq (r : FaultRecord) : r.bytes = fieldBytes r.fields ++ (fieldBytes r.detail.fields ++ []) := by
  have hdetail : r.detail.bytes = fieldBytes r.detail.fields := by
    cases r.detail with
    | number n => simp only [Detail.bytes, Detail.fields, bigEndianInt, fieldBytes, List.append_nil]; rfl
    | key k => simp only [Detail.bytes, Detail.fields, LotKey.bytes, fieldBytes, List.append_assoc, List.append_nil]; rfl
  unfold FaultRecord.bytes FaultRecord.fields
  rw [hdetail]
  simp only [fieldBytes]
  simp only [List.append_assoc, List.append_nil]

theorem FaultRecord.detail_fields (r : FaultRecord) : carries r.bytes (fieldRows 11 r.detail.fields) := by
  rw [FaultRecord.bytes_eq]
  exact carries_fields _ _ (by rw [fieldBytes_length]; rfl)

/-! ### The blank record (R70) -/

/-- The fields of a blank record ahead of its failed list (12.4). -/
def Record.fields (r : Record) : List (Nat × Nat) :=
  [(4, r.serial), (4, r.birth), (2, r.lot.id), (1, r.lot.makeUp), (1, formatNumber r.format),
    (1, match r.variant with | some v => v.val | none => 255),
    (2, ((match r.variant, r.error with | some _, some e => e | _, _ => 0) % 65536 : Int).toNat),
    (1, Final.code r.final),
    (1, flag 1 r.poisoned + flag 2 r.unmarkedEnd + flag 4 r.slot.isSome +
      flag 8 (match r.slot with | some s => s.batchEnd | none => false)),
    (1, r.defects.code), (3, match r.slot with | some s => s.batch | none => 0),
    (2, match r.slot with | some s => s.index | none => 0), (1, r.failed.length)]

theorem Record.bytes_eq (r : Record) :
    r.bytes = fieldBytes r.fields ++ (nibblePairs 8 r.failed ++ (fieldBytes [(1, r.suppressed.length)] ++
      padTo 24 (r.suppressed.map fun c => BitVec.ofNat 8 c.val))) := by
  unfold Record.bytes LotKey.bytes Record.fields
  simp only [fieldBytes]
  simp only [List.append_assoc, List.append_nil]
  rfl

theorem Record.fields_length (r : Record) : (fieldBytes r.fields).length = 24 := by
  simp [fieldBytes_length, Record.fields]

theorem fieldAt_one (bytes : List Byte) (k : Nat) : fieldAt bytes k 1 = (bytes.getD k 0).toNat := by
  rw [fieldAt, List.take_one, List.head?_drop, List.getD_eq_getElem?_getD]
  cases bytes[k]? <;> simp

/-- Two entries to a byte, the earlier in the high four bits. -/
theorem nibblePairs_at : ∀ (n : Nat) (l : List (Fin 16)) (j : Nat), j < 2 * n →
    ((nibblePairs n l).getD (j / 2) 0).toNat / (if j % 2 = 0 then 16 else 1) % 16 = (l.map Fin.val).getD j 0
  | 0, _, _, h => absurd h (by omega)
  | n + 1, [], j, h => by
    rcases j with - | - | j
    · simp [nibblePairs]
    · simp [nibblePairs]
    · have hrest := nibblePairs_at n [] j (by omega)
      rw [nibblePairs, show (j + 1 + 1) / 2 = j / 2 + 1 by omega, show (j + 1 + 1) % 2 = j % 2 by omega]
      exact hrest
  | n + 1, [a], j, h => by
    rcases j with - | - | j
    · have ha : a.val * 16 % 256 / 16 % 16 = a.val := by omega
      exact ha
    · have ha : a.val * 16 % 256 / 1 % 16 = 0 := by omega
      exact ha
    · have hrest := nibblePairs_at n [] j (by omega)
      rw [nibblePairs, show (j + 1 + 1) / 2 = j / 2 + 1 by omega, show (j + 1 + 1) % 2 = j % 2 by omega]
      exact hrest
  | n + 1, a :: b :: rest, j, h => by
    rcases j with - | - | j
    · have ha : (a.val * 16 + b.val) % 256 / 16 % 16 = a.val := by omega
      exact ha
    · have hb : (a.val * 16 + b.val) % 256 / 1 % 16 = b.val := by omega
      exact hb
    · have hrest := nibblePairs_at n rest j (by omega)
      rw [nibblePairs, show (j + 1 + 1) / 2 = j / 2 + 1 by omega, show (j + 1 + 1) % 2 = j % 2 by omega]
      exact hrest

theorem padTo_getD {n k : Nat} (l : List Byte) (h : k < n) : (padTo n l).getD k 0 = l.getD k 0 := by
  rw [padTo, List.getD_eq_getElem?_getD, List.getD_eq_getElem?_getD, List.getElem?_take_of_lt h]
  by_cases hk : k < l.length
  · rw [List.getElem?_append_left hk]
  · rw [List.getElem?_append_right (by omega), List.getElem?_eq_none (l := l) (by omega),
      List.getElem?_replicate, if_pos (by omega)]
    rfl

end Sys2Proof.Machine

/-! ## Settled: reads only answer (O33) -/

namespace Sys2Proof.Machine

theorem carries_of_subset {bytes : List Byte} {rows some : List (Nat × Nat × Nat)} (h : carries bytes rows)
    (hsub : some ⊆ rows) : carries bytes some :=
  fun row hrow => h row (hsub hrow)

theorem carries_of_eq {bytes : List Byte} {rows rows' : List (Nat × Nat × Nat)} (h : carries bytes rows)
    (heq : rows' = rows) : carries bytes rows' :=
  heq ▸ h

/-- Fields at the front. -/
theorem carries_front (fields : List (Nat × Nat)) (post : List Byte) :
    carries (fieldBytes fields ++ post) (fieldRows 0 fields) :=
  carries_fields (pre := []) fields post rfl

/-! ### Page 0 -/

theorem FormatState.code_eq (x : FormatState) :
    x.code = (match x with | .empty => 0 | .open => 1 | .valid => 2 | .invalid => 3) := by
  cases x <;> rfl

/-- The room of the pool, as page 0 counts it. -/
theorem pageRoom_eq (s : State) :
    let held := fun n : Fin 16 → Fin 4 → Nat => ((List.finRange 16).map fun g => n g 0 + n g 1 + n g 2 + n g 3).sum
    pageRoom s.store = [(2, 512 - held fun g v => ((s.format g).program v).windows.length),
      (2, 256 - held fun g v => ((s.format g).program v).checks.length)] := by
  intro held
  have hwindows : (List.finRange 16).map (fun g => (s.store.formats.get g).windowCount) =
      (List.finRange 16).map fun g => ((s.format g).program 0).windows.length + ((s.format g).program 1).windows.length +
        ((s.format g).program 2).windows.length + ((s.format g).program 3).windows.length :=
    List.map_congr_left fun g _ => (Format.counts_eq _).1
  have hchecks : (List.finRange 16).map (fun g => (s.store.formats.get g).checkCount) =
      (List.finRange 16).map fun g => ((s.format g).program 0).checks.length + ((s.format g).program 1).checks.length +
        ((s.format g).program 2).checks.length + ((s.format g).program 3).checks.length :=
    List.map_congr_left fun g _ => (Format.counts_eq _).2
  rw [pageRoom, (Store.free_eq _).1, (Store.free_eq _).2, hwindows, hchecks]

theorem pageZero_rows (s : State) (f : Fin 16) :
    let x := s.format f
    let held := fun n : Fin 16 → Fin 4 → Nat => ((List.finRange 16).map fun g => n g 0 + n g 1 + n g 2 + n g 3).sum
    carries (pageZero s f)
      [(0, 1, match x.state with | .empty => 0 | .open => 1 | .valid => 2 | .invalid => 3),
        (1, 1, if s.inUse f then 1 else 0), (2, 2, x.storedSum), (4, 1, f.val + 1), (5, 1, x.sizeClass),
        (6, 4, x.required.toNat), (10, 2, x.nominal), (12, 2, x.half), (34, 1, x.lockWindow), (35, 2, x.warn),
        (37, 2, x.reject), (39, 1, x.gain), (40, 1, x.stepMax), (41, 2, x.trimMax), (43, 1, x.lossLimit),
        (44, 1, x.holdoff), (45, 1, x.span), (46, 1, if x.acceptUnlocked then 1 else 0),
        (55, 2, 512 - held fun g v => ((s.format g).program v).windows.length),
        (57, 2, 256 - held fun g v => ((s.format g).program v).checks.length)] := by
  intro x held
  have hfields := pageZero_fields s f
  rw [pageRoom_eq] at hfields
  exact carries_of_eq hfields rfl

theorem pageZero_variant (s : State) (f : Fin 16) (v : Fin 4) :
    carries (pageZero s f) [(14 + 5 * v.val, 1, if ((s.format f).classes.get v).isSome then 1 else 0),
      (47 + 2 * v.val, 1, ((s.format f).program v).windows.length),
      (48 + 2 * v.val, 1, ((s.format f).program v).checks.length)] := by
  have hstart : 48 + 2 * v.val = 47 + 2 * v.val + 1 := by omega
  rw [hstart]
  refine carries_of_subset (carries_append (pageZero_class s f v) (pageZero_program s f v)) fun row hrow => ?_
  simp only [classFields, fieldRows, List.mem_append, List.mem_cons] at hrow ⊢
  tauto

theorem pageZero_widths {s : State} {f : Fin 16} {v : Fin 4} {c : MarkClass} (h : (s.format f).classes.get v = some c) :
    carries (pageZero s f) [(15 + 5 * v.val, 2, c.min), (17 + 5 * v.val, 2, c.max)] := by
  have hclass := pageZero_class s f v
  rw [h] at hclass
  have hmin : 15 + 5 * v.val = 14 + 5 * v.val + 1 := by omega
  have hmax : 17 + 5 * v.val = 14 + 5 * v.val + 1 + 2 := by omega
  rw [hmin, hmax]
  exact fun row hrow => hclass row (List.mem_cons_of_mem _ hrow)

/-! ### The pages of entries -/

theorem pageEntries_count {s : State} {f : Fin 16} {n : Nat} :
    carries (pageEntries s f n) [(0, 1, min 16 ((s.format f).entryList.length - 16 * (n - 1)))] := by
  rw [pageEntries_eq, State.page_length]
  exact carries_front [_] _

theorem pageEntries_window {s : State} {f : Fin 16} {v : Fin 4} {n j k : Nat} {w : WindowEntry} (hj : j < 16)
    (hw : ((s.format f).program v).windows[k]? = some w) (hplace : 16 * (n - 1) + j = (s.format f).firstEntry v + k) :
    carries (pageEntries s f n) [(1 + 9 * j, 1, 3), (2 + 9 * j, 1, v.val), (3 + 9 * j, 1, w.channel.val),
      (4 + 9 * j, 2, w.on), (6 + 9 * j, 2, w.off), (8 + 9 * j, 2, 0)] := by
  refine carries_of_eq (pageEntries_at hj (Program.entryBytes_window hw) hplace (windowBytes_eq v w)) ?_
  simp only [fieldRows, List.cons.injEq, Prod.mk.injEq, and_true, true_and]
  omega

theorem pageEntries_check {s : State} {f : Fin 16} {v : Fin 4} {n j k : Nat} {e : CheckEntry} (hj : j < 16)
    (he : ((s.format f).program v).checks[k]? = some e)
    (hplace : 16 * (n - 1) + j = (s.format f).firstEntry v + ((s.format f).program v).windows.length + k) :
    carries (pageEntries s f n) [(1 + 9 * j, 1, 4), (2 + 9 * j, 1, v.val), (3 + 9 * j, 1, e.input.val),
      (4 + 9 * j, 2, e.start), (6 + 9 * j, 2, e.stop), (8 + 9 * j, 1, if e.expect = .present then 1 else 0),
      (9 + 9 * j, 1, match e.paired with | some c => c.val | none => 255)] := by
  have hcode : (if e.expect = .present then 1 else 0) = e.expect.code := by cases e.expect <;> rfl
  rw [hcode]
  refine carries_of_eq (pageEntries_at hj (Program.entryBytes_check he) (by rw [hplace, Nat.add_assoc]) (checkBytes_eq v e)) ?_
  cases e.paired <;>
    · simp only [fieldRows, List.cons.injEq, Prod.mk.injEq, and_true, true_and]
      omega

/-! ### Lot, blank and fault records -/

theorem Lot.bytes_rows (place count committed : Nat) (l : Lot) : carries (l.bytes place count committed)
    [(0, 1, place), (1, 1, count), (2, 2, l.key.id), (4, 1, l.key.makeUp), (5, 1, l.format.val + 1), (6, 4, l.target),
      (10, 2, l.batchSize), (12, 1, if l.makeUp then 1 else 0),
      (13, 1, match l.state with | .queued => 0 | .cutting => 1 | .closed => 2), (14, 4, l.cut), (18, 4, l.finalGood),
      (22, 4, l.stacked), (26, 4, l.diverted), (30, 4, l.undiverted), (34, 4, l.purged), (38, 4, l.inFlight),
      (42, 4, committed), (46, 3, match l.openBatch with | some b => b.1 | none => 0),
      (49, 2, match l.openBatch with | some b => b.2 | none => 0), (51, 3, l.nextBatch), (54, 3, l.completed),
      (57, 2, l.delivered), (59, 1, if l.contaminated then 1 else 0)] := by
  rw [Lot.bytes_eq]
  exact carries_front (l.fields place count committed) []

/-- The row of the error. -/
def Record.errorRow (r : Record) : Nat × Nat × Nat :=
  (13, 2, ((match r.variant, r.error with | some _, some e => e | _, _ => 0) % 65536 : Int).toNat)

theorem Record.bytes_fields (r : Record) :
    carries r.bytes (fieldRows 0 r.fields ++ fieldRows 32 [(1, r.suppressed.length)]) := by
  have hnibbles : (nibblePairs 8 r.failed).length = 8 := nibblePairs_length 8 r.failed
  rw [Record.bytes_eq]
  refine carries_append (carries_front r.fields _) ?_
  rw [← List.append_assoc]
  exact carries_fields [(1, r.suppressed.length)] _ (by rw [List.length_append, r.fields_length, hnibbles])

theorem Record.bytes_error (r : Record) : carries r.bytes [r.errorRow] :=
  carries_of_subset r.bytes_fields fun _ hrow =>
    List.mem_append_left _ (List.mem_of_mem_drop (i := 6) (List.mem_singleton.1 hrow ▸ List.mem_cons_self))

theorem Record.bytes_rows (r : Record) :
    let bit := fun (b : Bool) (weight : Nat) => if b then weight else 0
    carries r.bytes
      [(0, 4, r.serial), (4, 4, r.birth), (8, 2, r.lot.id), (10, 1, r.lot.makeUp), (11, 1, r.format.val + 1),
        (12, 1, match r.variant with | some v => v.val | none => 255),
        (15, 1, match r.final with | none => 0 | some .good => 1 | some .diverted => 2 | some .undiverted => 3),
        (16, 1, bit r.poisoned 1 + bit r.unmarkedEnd 2 + bit r.slot.isSome 4 +
          bit (match r.slot with | some x => x.batchEnd | none => false) 8),
        (17, 1, bit r.defects.markMissing 1 + bit r.defects.markUnreadable 2 + bit r.defects.regUnlocked 4 +
          bit r.defects.regError 8 + bit r.defects.splice 16 + bit r.defects.check 32 + bit r.defects.rest 64),
        (18, 3, match r.slot with | some x => x.batch | none => 0),
        (21, 2, match r.slot with | some x => x.index | none => 0),
        (23, 1, r.failed.length), (32, 1, r.suppressed.length)] :=
  carries_of_subset r.bytes_fields ((List.sublist_cons_self r.errorRow _).append_left ((fieldRows 0 r.fields).take 6)).subset

theorem Record.bytes_failed (r : Record) {j : Nat} (hj : j < 16) :
    fieldAt r.bytes (24 + j / 2) 1 / (if j % 2 = 0 then 16 else 1) % 16 = (r.failed.map Fin.val).getD j 0 := by
  have hnibbles : (nibblePairs 8 r.failed).length = 8 := nibblePairs_length 8 r.failed
  rw [Record.bytes_eq, fieldAt_append_right 1 (by rw [r.fields_length]; omega), r.fields_length, Nat.add_sub_cancel_left,
    fieldAt_append_left (by omega), fieldAt_one]
  exact nibblePairs_at 8 r.failed j hj

theorem Record.bytes_suppressed (r : Record) {j : Nat} (hj : j < 24) :
    carries r.bytes [(33 + j, 1, (r.suppressed.map Fin.val).getD j 0)] := by
  have hnibbles : (nibblePairs 8 r.failed).length = 8 := nibblePairs_length 8 r.failed
  have hhead : (fieldBytes r.fields ++ (nibblePairs 8 r.failed ++ fieldBytes [(1, r.suppressed.length)])).length = 33 := by
    rw [List.length_append, List.length_append, r.fields_length, hnibbles, fieldBytes_length]
    rfl
  have hlist : (r.suppressed.map fun c => BitVec.ofNat 8 c.val).getD j 0 =
      BitVec.ofNat 8 ((r.suppressed.map Fin.val).getD j 0) := by
    rw [List.getD_eq_getElem?_getD, List.getD_eq_getElem?_getD, List.getElem?_map, List.getElem?_map]
    cases r.suppressed[j]? <;> rfl
  intro row hrow
  rw [List.mem_singleton.1 hrow, Record.bytes_eq, ← List.append_assoc (nibblePairs 8 r.failed), ← List.append_assoc,
    fieldAt_append_right 1 (by rw [hhead]; omega), hhead, Nat.add_sub_cancel_left, fieldAt_one, padTo_getD _ hj, hlist]
  rfl

theorem FaultRecord.bytes_rows (r : FaultRecord) :
    let kinds := [FaultKind.motionLost, .reverse, .positionJump, .overspeed, .outboundOverrun, .linkDown, .regLost, .trimLimit,
      .consecutiveDefect, .undivertedReject, .boxLate, .boxOverflow, .formatInvalid, .formatCheck, .stationMissing]
    carries r.bytes
      [(0, 4, r.sequence), (4, 1, kinds.idxOf r.kind + 1), (5, 1, match r.effect with | .none => 0 | .stop => 1 | .safe => 2),
        (6, 1, match r.line with | .idle => 0 | .run => 1 | .runout => 2 | .safe => 3), (7, 4, r.pitch)] := by
  intro kinds
  have hkind : kinds.idxOf r.kind + 1 = r.kind.code := by cases r.kind <;> rfl
  rw [hkind, FaultRecord.bytes_eq]
  exact carries_front r.fields _

/-! ### The heads of TRACK_READ and LOG_READ -/

theorem trackBytes_head (s : State) : ∃ head, trackBytes s = fieldBytes head ++ s.trq.queue.flatMap Record.bytes ∧
    (fieldBytes head).length = 8 ∧ fieldRows 0 head =
      [(0, 1, match s.sup.line with | .idle => 0 | .run => 1 | .runout => 2 | .safe => 3),
        (1, 1, s.settings.deliveryOffset), (2, 1, s.settings.deliveryOffset + 2), (3, 4, s.trq.serial),
        (7, 1, s.trq.queue.length)] := by
  refine ⟨[(1, s.sup.line.code), (1, s.settings.deliveryOffset), (1, s.settings.deliveryOffset + 2), (4, s.trq.serial),
    (1, s.trq.queue.length)], ?_, ?_, rfl⟩
  · simp only [trackBytes, fieldBytes, List.append_assoc, List.nil_append]
  · rw [fieldBytes_length]
    rfl

theorem logBytes_head (s : State) (first : Nat) :
    ∃ head, logBytes s first = fieldBytes head ++ (s.logFrom first).flatMap FaultRecord.bytes ∧
      (fieldBytes head).length = 7 ∧ fieldRows 0 head =
        [(0, 4, s.sup.lastSequence), (4, 1, s.sup.log.length), (5, 1, s.sup.overflow), (6, 1, (s.logFrom first).length)] := by
  refine ⟨[(4, s.sup.lastSequence), (1, s.sup.log.length), (1, s.sup.overflow), (1, (s.logFrom first).length)], ?_, ?_, rfl⟩
  · simp only [logBytes, fieldBytes, List.append_assoc, List.nil_append]
  · rw [fieldBytes_length]
    rfl

/-! ### LOT_READ -/

theorem lotReadOwner_none {selector : Byte} {id : Half} {place : Byte} {s : State} (hselector : ¬1 < selector.toNat)
    (h : s.selectLot selector.toNat id place = none) : lotReadOwner selector id place s = (s, .plain .unknownId) := by
  rw [lotReadOwner, if_neg hselector, h]

theorem lotReadOwner_some {selector : Byte} {id : Half} {place : Byte} {s : State} {n : Nat} {l : Lot}
    (hselector : ¬1 < selector.toNat) (h : s.selectLot selector.toNat id place = some (n, l)) :
    lotReadOwner selector id place s = (s, .one .accepted (l.bytes n s.lot.table.length (s.committed l))) := by
  rw [lotReadOwner, if_neg hselector, h]

theorem State.selectLot_missing {s : State} {id : Half} {place : Byte}
    (h : ∀ l ∈ s.lot.table, l.key ≠ ⟨id.toNat, place.toNat⟩) : s.selectLot 0 id place = none := by
  have hindex : s.lot.table.findIdx (fun l => l.key == ⟨id.toNat, place.toNat⟩) = s.lot.table.length :=
    List.findIdx_eq_length.2 fun l hl => beq_eq_false_iff_ne.2 (h l hl)
  rw [State.selectLot, if_pos rfl, hindex, List.getElem?_eq_none le_rfl]
  rfl

theorem State.selectLot_key {s : State} {id : Half} {place : Byte} {before after : List Lot} {l : Lot}
    (htable : s.lot.table = before ++ l :: after) (hkey : l.key = ⟨id.toNat, place.toNat⟩)
    (hbefore : ∀ x ∈ before, x.key ≠ l.key) : s.selectLot 0 id place = some (before.length, l) := by
  have hindex : s.lot.table.findIdx (fun l => l.key == ⟨id.toNat, place.toNat⟩) = before.length := by
    have hnone : before.findIdx (fun l => l.key == ⟨id.toNat, place.toNat⟩) = before.length :=
      List.findIdx_eq_length.2 fun x hx => beq_eq_false_iff_ne.2 (hkey ▸ hbefore x hx)
    rw [htable, List.findIdx_append, hnone, if_neg (lt_irrefl _), List.findIdx_cons, beq_iff_eq.2 hkey]
    exact Nat.zero_add _
  rw [State.selectLot, if_pos rfl, hindex, htable, List.getElem?_append_right le_rfl, Nat.sub_self]
  rfl

theorem State.selectLot_place {s : State} (id : Half) (place : Byte) :
    s.selectLot 1 id place = (s.lot.table[place.toNat]?).map fun l => (place.toNat, l) := by
  rw [State.selectLot, if_neg Nat.one_ne_zero]

/-! ### The requests -/

theorem exec_formatRead {s : State} {src tag page : Byte} {f : Fin 16} (htakes : s.Takes src 1) :
    exec (.formatRead src tag (BitVec.ofNat 8 (f.val + 1)) page) s =
      .next (s.answered src 9 tag (.one .accepted (if page = 0 then pageZero s f else pageEntries s f page.toNat))) := by
  have hid : formatId? (BitVec.ofNat 8 (f.val + 1)) = some f :=
    formatId?_of (by rw [BitVec.toNat_ofNat, Nat.mod_eq_of_lt (by omega)])
  have howner : formatReadOwner (BitVec.ofNat 8 (f.val + 1)) page (s.serving 1) =
      (s.serving 1, .one .accepted (if page = 0 then pageZero s f else pageEntries s f page.toNat)) := by
    have hpage : (page.toNat = 0) = (page = 0) :=
      propext ⟨fun h => BitVec.eq_of_toNat_eq h, fun h => h ▸ rfl⟩
    simp only [formatReadOwner, hid, hpage]
    rfl
  exact exec_answered (t := s) (v := ⟨src, 9, tag, fun _ => 1, formatReadOwner _ page, false⟩) rfl htakes howner rfl
    Bool.noConfusion

theorem exec_lotRead {s : State} {src tag selector place : Byte} {id : Half} {r : Reply} (htakes : s.Takes src 1)
    (howner : lotReadOwner selector id place (s.serving 1) = (s.serving 1, r)) :
    exec (.lotRead src tag selector id place) s = .next (s.answered src 12 tag r) :=
  exec_answered (t := s) (v := ⟨src, 12, tag, fun _ => 1, lotReadOwner selector id place, false⟩) rfl htakes howner rfl
    Bool.noConfusion

theorem exec_trackRead {s : State} {src tag : Byte} (htakes : s.Takes src (trackParts s)) :
    exec (.trackRead src tag) s = .next (s.answered src 20 tag ⟨.accepted, cutParts 8 (trackBytes s)⟩) :=
  exec_answered (t := s) (v := ⟨src, 20, tag, trackParts, trackReadOwner, false⟩) rfl htakes rfl rfl Bool.noConfusion

theorem exec_logRead {s : State} {src tag : Byte} {first : Quad} (htakes : s.Takes src (logParts first s)) :
    exec (.logRead src tag first) s = .next (s.answered src 22 tag ⟨.accepted, cutParts 2 (logBytes s first.toNat)⟩) :=
  exec_answered (t := s) (v := ⟨src, 22, tag, logParts first, logReadOwner first, false⟩) rfl htakes rfl rfl
    Bool.noConfusion

/-- LOT_READ by its selector. -/
theorem lotRead_answers (s : State) (src tag selector : Byte) (id : Half) (place : Byte) (htakes : s.Takes src 1) :
    let run := exec (.lotRead src tag selector id place) s
    (1 < selector.toNat → run = .next (s.answered src 12 tag (.plain .badValue))) ∧
    (selector = 0 → (∀ l ∈ s.lot.table, l.key ≠ ⟨id.toNat, place.toNat⟩) →
      run = .next (s.answered src 12 tag (.plain .unknownId))) ∧
    (selector = 1 → s.lot.table.length ≤ place.toNat → run = .next (s.answered src 12 tag (.plain .unknownId))) ∧
    ∀ before l after, s.lot.table = before ++ l :: after →
      (selector = 0 ∧ l.key = ⟨id.toNat, place.toNat⟩ ∧ (∀ x ∈ before, x.key ≠ l.key)) ∨
        (selector = 1 ∧ place.toNat = before.length) →
      run = .next (s.answered src 12 tag (.one .accepted (l.bytes before.length s.lot.table.length (s.committed l)))) := by
  refine ⟨fun h => exec_lotRead htakes (if_pos h), ?_, ?_, ?_⟩
  · rintro rfl hmissing
    exact exec_lotRead htakes (lotReadOwner_none (by decide) (State.selectLot_missing (s := s.serving 1) hmissing))
  · rintro rfl hplace
    refine exec_lotRead htakes (lotReadOwner_none (by decide) ?_)
    exact (State.selectLot_place id place).trans (by rw [List.getElem?_eq_none (l := (s.serving 1).lot.table) hplace]; rfl)
  · rintro before l after htable (⟨rfl, hkey, hbefore⟩ | ⟨rfl, hplace⟩)
    · exact exec_lotRead htakes
        (lotReadOwner_some (s := s.serving 1) (by decide) (State.selectLot_key (s := s.serving 1) htable hkey hbefore))
    · have hselect : (s.serving 1).selectLot 1 id place = some (before.length, l) := by
        have hat : s.lot.table[before.length]? = some l := by
          rw [htable, List.getElem?_append_right le_rfl, Nat.sub_self]
          rfl
        exact (State.selectLot_place id place).trans (by rw [hplace]; exact congrArg _ hat)
      exact exec_lotRead htakes (lotReadOwner_some (s := s.serving 1) (by decide) hselect)

/-- Settles O33: page 0, the pages of entries and the records are fields one behind the other, and the four reads answer
from the state they leave. -/
theorem readsOnlyAnswer : Obligations.ReadsOnlyAnswer := by
  unfold Obligations.ReadsOnlyAnswer
  refine ⟨?_, fun place count committed l => l.bytes_rows place count committed, ?_, ?_, ?_⟩
  · intro s f x windows checks held
    refine ⟨pageZero_rows s f, fun v => ⟨pageZero_variant s f v, fun c hc => pageZero_widths hc⟩, ?_⟩
    intro n _ total
    refine ⟨carries_of_eq pageEntries_count (by rw [Format.entryList_length]), ?_⟩
    intro j v hj first
    exact ⟨fun k w hw hplace => pageEntries_window hj hw hplace, fun k e he hplace => pageEntries_check hj he hplace⟩
  · intro r bit
    refine ⟨Record.bytes_length r, r.bytes_rows, ?_, ?_, fun j hj => r.bytes_failed hj,
      fun j hj => r.bytes_suppressed hj⟩
    · intro hvariant
      exact carries_of_eq r.bytes_error (by rw [Record.errorRow, hvariant]; rfl)
    · intro v e hvariant he
      exact carries_of_eq r.bytes_error (by rw [Record.errorRow, hvariant, he])
  · intro r kinds
    refine ⟨FaultRecord.bytes_length r, r.bytes_rows, fun n hn => ?_, fun k hk => ?_⟩
    · exact carries_of_eq r.detail_fields (by rw [hn]; rfl)
    · exact carries_of_eq r.detail_fields (by rw [hk]; rfl)
  · intro src tag s hown hlink
    refine ⟨?_, ?_, ?_, ?_⟩
    · intro f page htakes
      refine ⟨exec_formatRead htakes, pageZero_length s f, ?_⟩
      obtain ⟨hwindows, hchecks⟩ := (s.format f).counts_eq
      rw [pageEntries_length, Format.entryList_length, hwindows, hchecks]
      omega
    · intro selector id place htakes run
      obtain ⟨hbad, hmissing, hbeyond, hfound⟩ := lotRead_answers s src tag selector id place htakes
      exact ⟨hbad, hmissing, hbeyond, fun before l after htable h =>
        ⟨hfound before l after htable h, l.bytes_length _ _ _⟩⟩
    · intro htakes
      obtain ⟨head, hbytes, hlength, hrows⟩ := trackBytes_head s
      refine ⟨exec_trackRead htakes, trackBytes_length s, ?_, ?_⟩
      · rw [hbytes, List.drop_append_of_le_length hlength.ge, List.drop_of_length_le hlength.le]
        rfl
      · rw [hbytes]
        exact carries_of_eq (carries_front head _) hrows.symm
    · intro first shown htakes
      obtain ⟨head, hbytes, hlength, hrows⟩ := logBytes_head s first.toNat
      refine ⟨exec_logRead htakes, logBytes_length s _, ?_, ?_⟩
      · rw [hbytes, List.drop_append_of_le_length hlength.ge, List.drop_of_length_le hlength.le]
        rfl
      · rw [hbytes]
        exact carries_of_eq (carries_front head _) hrows.symm

end Sys2Proof.Machine

/-! ## Settled: STATUS_READ and COUNTERS_READ (O34) -/

namespace Sys2Proof.Machine

/-! ### Padded lists (R178) -/

/-- A list of bytes that is filled up keeps what fits. -/
theorem padTo_keeps {n : Nat} {pre piece : List Byte} (post : List Byte) (h : pre.length + piece.length ≤ n) :
    ∃ rest, padTo n (pre ++ (piece ++ post)) = pre ++ (piece ++ rest) := by
  refine ⟨(post ++ List.replicate n 0).take (n - (pre ++ piece).length), ?_⟩
  have hfit : (pre ++ piece).length ≤ n := by rw [List.length_append]; exact h
  rw [padTo, ← List.append_assoc, List.append_assoc (pre ++ piece), List.take_append, List.take_of_length_le hfit,
    List.append_assoc]

/-- The fields of one piece of a filled-up list of pieces of one length. -/
theorem carries_padded {α : Type} {n m k start : Nat} {g : α → List Byte} {head tail : List Byte} {l : List α} {a : α}
    (fields : List (Nat × Nat)) (hlen : ∀ a ∈ l, (g a).length = m) (ha : l[k]? = some a) (hg : g a = fieldBytes fields)
    (hfit : m * k + m ≤ n) (hstart : head.length + m * k = start) :
    carries (head ++ (padTo n (l.flatMap g) ++ tail)) (fieldRows start fields) := by
  obtain ⟨pre, post, hl, hpre⟩ := flatMap_at hlen ha
  have hlast : (g a).length = m := hlen a (List.mem_of_getElem? ha)
  obtain ⟨rest, hrest⟩ := padTo_keeps (n := n) (pre := pre) (piece := g a) post (by rw [hpre, hlast]; exact hfit)
  have hbytes : head ++ (padTo n (l.flatMap g) ++ tail) = (head ++ pre) ++ (fieldBytes fields ++ (rest ++ tail)) := by
    rw [hl, hrest, hg]
    simp only [List.append_assoc]
  rw [hbytes]
  exact carries_fields fields _ (by rw [List.length_append, hpre, hstart])

theorem fieldAt_zeros (n start w : Nat) : fieldAt (List.replicate n 0) start w = 0 := by
  have hzero : ∀ k, (List.replicate k (0 : Byte)).foldl (fun x b => x * 256 + b.toNat) 0 = 0 := by
    intro k
    induction k with
    | zero => rfl
    | succ k ih => exact ih
  rw [fieldAt, List.drop_replicate, List.take_replicate]
  exact hzero _

/-- What is filled up is 0. -/
theorem carries_filling {n start w k : Nat} {head l tail : List Byte} (hl : l.length ≤ k) (hfit : k + w ≤ n)
    (hstart : head.length + k = start) : carries (head ++ (padTo n l ++ tail)) [(start, w, 0)] := by
  intro row hrow
  have hpadded : (padTo n l).length = n := padTo_length n l
  have hlong : l.length ≤ n := by omega
  have hpad : padTo n l = l ++ List.replicate (n - l.length) 0 := by
    rw [padTo, List.take_append, List.take_of_length_le hlong, List.take_replicate, Nat.min_eq_left (Nat.sub_le _ _)]
  rw [List.mem_singleton.1 hrow, ← hstart, fieldAt_append_right w (Nat.le_add_right _ _), Nat.add_sub_cancel_left,
    fieldAt_append_left (by rw [hpadded]; exact hfit), hpad, fieldAt_append_right w hl, fieldAt_zeros, Nat.zero_mod]

/-! ### Part 1 of the picture -/

/-- The fields of part 1 ahead of the levels (12.5). -/
def statusHead (s : State) : List (Nat × Nat) :=
  [(1, s.sup.line.code), (1, s.sup.reason.code), (4, s.sup.reason.sequence), (4, s.sup.lastSequence),
    (1, s.sup.log.length), (1, s.sup.overflow), (1, s.pos.state.code), (4, s.pos.held / 4096), (2, s.pos.held % 4096),
    (3, s.pos.s), (2, s.pos.v), (1, s.reg.lock.code), (2, (s.reg.trim % 65536).toNat), (1, flag 1 s.reg.lost),
    (1, flag 1 s.rif.linkUp), (1, flag 1 s.rif.linkDownFlag)]

/-- The bytes of one channel and of one input. -/
def levelBytes (x : CamChannel) : List Byte := bigEndian 1 x.level.code

def inputBytes (x : ChkInput) : List Byte := bigEndian 1 x.pulse.code ++ bigEndian 1 x.consecutive

theorem levelBytes_length (x : CamChannel) : (levelBytes x).length = 1 := bigEndian_length _ _

theorem inputBytes_length (x : ChkInput) : (inputBytes x).length = 2 := by
  simp [inputBytes, bigEndian_length]

theorem statusHead_length (s : State) : (fieldBytes (statusHead s)).length = 30 := by
  simp [fieldBytes_length, statusHead]

theorem statusPartOne_eq (s : State) : statusPartOne s =
    fieldBytes (statusHead s) ++ (s.cam.toList.flatMap levelBytes ++ (s.chk.toList.flatMap inputBytes ++ [])) := by
  unfold statusPartOne levelBytes inputBytes
  simp only [statusHead]
  simp only [fieldBytes]
  simp only [List.append_assoc, List.append_nil]
  rfl

theorem levels_length (s : State) : (s.cam.toList.flatMap levelBytes).length = 24 := by
  rw [flatMap_length_const levelBytes_length, Vector.length_toList]

theorem statusPartOne_length (s : State) : (statusPartOne s).length = 86 := by
  have hinputs : (s.chk.toList.flatMap inputBytes).length = 32 := by
    rw [flatMap_length_const inputBytes_length, Vector.length_toList]
  rw [statusPartOne_eq, List.append_nil, List.length_append, List.length_append, statusHead_length, levels_length, hinputs]

theorem statusPartOne_head (s : State) :
    carries (statusPartOne s)
      [(0, 1, match s.sup.line with | .idle => 0 | .run => 1 | .runout => 2 | .safe => 3),
        (1, 1, match s.sup.reason with | .none => 0 | .request => 1 | .fault _ => 2 | .changeover => 3 | .lotsExhausted => 4),
        (2, 4, match s.sup.reason with | .fault n => n | _ => 0), (6, 4, s.sup.lastSequence), (10, 1, s.sup.log.length),
        (11, 1, s.sup.overflow), (12, 1, match s.pos.state with | .unknown => 0 | .known => 1),
        (13, 4, s.pos.held / 4096), (17, 2, s.pos.held % 4096), (19, 3, s.pos.s), (22, 2, s.pos.v),
        (24, 1, match s.reg.lock with | .off => 0 | .holdoff => 1 | .search => 2 | .acquire => 3 | .locked => 4),
        (25, 2, (s.reg.trim % 65536).toNat), (27, 1, if s.reg.lost then 1 else 0), (28, 1, if s.rif.linkUp then 1 else 0),
        (29, 1, if s.rif.linkDownFlag then 1 else 0)] := by
  have hsequence : (match s.sup.reason with | .fault n => n | _ => 0) = s.sup.reason.sequence := by
    cases s.sup.reason <;> rfl
  rw [hsequence, statusPartOne_eq]
  exact carries_front (statusHead s) _

theorem statusPartOne_level (s : State) (c : Fin 24) :
    carries (statusPartOne s) [(30 + c.val, 1, match (s.camChannel c).level with | .none => 0 | .off => 1 | .on => 2)] := by
  rw [statusPartOne_eq]
  refine carries_piece (n := 1) (a := s.camChannel c) [(1, (s.camChannel c).level.code)] (fun x _ => levelBytes_length x)
    (vector_getElem? s.cam c) ⟨[], ?_⟩ (by rw [statusHead_length, Nat.one_mul])
  rw [levelBytes, fieldBytes, fieldBytes, List.append_nil, List.append_nil]

theorem statusPartOne_input (s : State) (i : Fin 16) :
    carries (statusPartOne s)
      [(54 + 2 * i.val, 1, match (s.chkInput i).pulse with | .none => 0 | .pending _ => 1 | .open _ => 2),
        (55 + 2 * i.val, 1, (s.chkInput i).consecutive)] := by
  have hnext : 55 + 2 * i.val = 54 + 2 * i.val + 1 := by omega
  rw [statusPartOne_eq, ← List.append_assoc, hnext]
  refine carries_piece (n := 2) (a := s.chkInput i)
    [(1, (s.chkInput i).pulse.code), (1, (s.chkInput i).consecutive)] (fun x _ => inputBytes_length x)
    (vector_getElem? s.chk i) ⟨[], ?_⟩ (by rw [List.length_append, statusHead_length, levels_length])
  simp only [inputBytes, fieldBytes, List.append_nil]

/-! ### Part 2 of the picture -/

/-- The fields of one lot of the summary and of one box entry (12.5). -/
def Lot.summary (l : Lot) : List (Nat × Nat) := [(2, l.key.id), (1, l.key.makeUp), (1, l.state.code), (4, l.inFlight)]

def BoxEntry.fields (e : BoxEntry) : List (Nat × Nat) :=
  [(2, e.batch.key.id), (1, e.batch.key.makeUp), (3, e.batch.number), (2, e.batch.good),
    (1, flag 1 e.batch.contaminated + flag 2 e.batch.unmarkedEnd + flag 4 e.batch.short), (1, e.deadline)]

theorem lotSummary_eq (l : Lot) : lotSummary l = fieldBytes l.summary := by
  simp only [lotSummary, LotKey.bytes, Lot.summary, fieldBytes, List.append_assoc, List.append_nil]

theorem boxBytes_eq (e : BoxEntry) : boxBytes e = fieldBytes e.fields := by
  simp only [boxBytes, Batch.bytes, LotKey.bytes, BoxEntry.fields, fieldBytes, List.append_assoc, List.append_nil]

theorem lotSummary_length (l : Lot) : (lotSummary l).length = 8 := by
  rw [lotSummary_eq, fieldBytes_length]
  rfl

theorem boxBytes_length (e : BoxEntry) : (boxBytes e).length = 10 := by
  rw [boxBytes_eq, fieldBytes_length]
  rfl

/-- The bytes of part 2 ahead of the boxes. -/
def statusLots (s : State) : List Byte :=
  fieldBytes [(1, s.lot.runClass.getD 0), (1, s.lot.table.length)] ++
    (padTo 64 (s.lot.table.flatMap lotSummary) ++ fieldBytes [(1, s.lot.boxes.length)])

theorem statusPartTwo_eq (s : State) :
    statusPartTwo s = statusLots s ++ (padTo 20 (s.lot.boxes.flatMap boxBytes) ++ []) := by
  unfold statusPartTwo statusLots classCode
  simp only [fieldBytes]
  simp only [List.append_assoc, List.append_nil]

theorem statusLots_length (s : State) : (statusLots s).length = 67 := by
  rw [statusLots, List.length_append, List.length_append, padTo_length, fieldBytes_length, fieldBytes_length]
  rfl

theorem statusPartTwo_length (s : State) : (statusPartTwo s).length = 87 := by
  rw [statusPartTwo_eq, List.append_nil, List.length_append, padTo_length, statusLots_length]

/-- Part 2 with the lots between what is ahead of them and what is behind. -/
theorem statusPartTwo_lots (s : State) : statusPartTwo s =
    fieldBytes [(1, s.lot.runClass.getD 0), (1, s.lot.table.length)] ++
      (padTo 64 (s.lot.table.flatMap lotSummary) ++
        (fieldBytes [(1, s.lot.boxes.length)] ++ padTo 20 (s.lot.boxes.flatMap boxBytes))) := by
  rw [statusPartTwo_eq, statusLots, List.append_nil, List.append_assoc, List.append_assoc]

theorem statusPartTwo_counts (s : State) :
    carries (statusPartTwo s) [(0, 1, s.lot.runClass.getD 0), (1, 1, s.lot.table.length), (66, 1, s.lot.boxes.length)] := by
  rw [statusPartTwo_lots]
  refine carries_append (rows := [(0, 1, s.lot.runClass.getD 0), (1, 1, s.lot.table.length)])
    (carries_front [(1, s.lot.runClass.getD 0), (1, s.lot.table.length)] _) ?_
  rw [← List.append_assoc]
  exact carries_fields [(1, s.lot.boxes.length)] _
    (by rw [List.length_append, padTo_length, fieldBytes_length]; rfl)

theorem statusPartTwo_lot {s : State} {k : Nat} {l : Lot} (hk : k < 8) (hl : s.lot.table[k]? = some l) :
    carries (statusPartTwo s)
      [(2 + 8 * k, 2, l.key.id), (4 + 8 * k, 1, l.key.makeUp),
        (5 + 8 * k, 1, match l.state with | .queued => 0 | .cutting => 1 | .closed => 2), (6 + 8 * k, 4, l.inFlight)] := by
  have hcode : (match l.state with | .queued => 0 | .cutting => 1 | .closed => 2) = l.state.code := by
    cases l.state <;> rfl
  rw [statusPartTwo_lots, hcode]
  refine carries_of_eq (carries_padded (m := 8) l.summary (fun x _ => lotSummary_length x) hl (lotSummary_eq l) (by omega)
    (by rw [fieldBytes_length]; rfl : _ = 2 + 8 * k)) ?_
  simp only [Lot.summary, fieldRows, List.cons.injEq, Prod.mk.injEq, and_true, true_and]
  omega

theorem statusPartTwo_noLot {s : State} {k : Nat} (hlength : s.lot.table.length ≤ k) (hk : k < 8) :
    carries (statusPartTwo s) [(2 + 8 * k, 8, 0)] := by
  rw [statusPartTwo_lots]
  refine carries_filling (k := 8 * k) ?_ (by omega) (by rw [fieldBytes_length]; rfl)
  rw [flatMap_length_const lotSummary_length]
  exact Nat.mul_le_mul_left 8 hlength

theorem statusPartTwo_box {s : State} {k : Nat} {e : BoxEntry} (hk : k < 2) (he : s.lot.boxes[k]? = some e) :
    carries (statusPartTwo s)
      [(67 + 10 * k, 2, e.batch.key.id), (69 + 10 * k, 1, e.batch.key.makeUp), (70 + 10 * k, 3, e.batch.number),
        (73 + 10 * k, 2, e.batch.good), (75 + 10 * k, 1, (if e.batch.contaminated then 1 else 0) +
          (if e.batch.unmarkedEnd then 2 else 0) + if e.batch.short then 4 else 0), (76 + 10 * k, 1, e.deadline)] := by
  rw [statusPartTwo_eq]
  refine carries_of_eq (carries_padded (m := 10) e.fields (fun x _ => boxBytes_length x) he (boxBytes_eq e) (by omega)
    (by rw [statusLots_length] : _ = 67 + 10 * k)) ?_
  simp only [BoxEntry.fields, fieldRows, flag, List.cons.injEq, Prod.mk.injEq, and_true, true_and]
  omega

theorem statusPartTwo_noBox {s : State} {k : Nat} (hlength : s.lot.boxes.length ≤ k) (hk : k < 2) :
    carries (statusPartTwo s) [(67 + 10 * k, 10, 0)] := by
  rw [statusPartTwo_eq]
  refine carries_filling (k := 10 * k) ?_ (by omega) (by rw [statusLots_length])
  rw [flatMap_length_const boxBytes_length]
  exact Nat.mul_le_mul_left 10 hlength

/-- STATUS_READ: the flags fall, and the picture as it stood is the answer. -/
theorem exec_statusRead {s : State} {src tag : Byte} (htakes : s.Takes src 2) :
    exec (.statusRead src tag) s =
      .next ({ s with reg := { s.reg with lost := false }, rif := { s.rif with linkDownFlag := false } }.answered src 19 tag
        ⟨.accepted, [statusPartOne s, statusPartTwo s]⟩) := by
  let t : State := { s with reg := { s.reg with lost := false }, rif := { s.rif with linkDownFlag := false } }
  let r : Reply := ⟨.accepted, [statusPartOne s, statusPartTwo s]⟩
  have hreplied : exec (.statusRead src tag) s = .next ((t.serving 2).replied s src 19 tag r) :=
    exec_replied (v := ⟨src, 19, tag, fun _ => 2, statusReadOwner, false⟩) rfl htakes rfl Bool.noConfusion
  have htakes' : t.Takes src 2 := htakes
  have hanswered : (t.serving 2).replied t src 19 tag r = t.answered src 19 tag r :=
    (takeRequest_taken src 19 tag 2 (fun x => (x, r)) t htakes').symm.trans
      (takeRequest_answered src 19 tag 2 (fun x => (x, r)) t t r htakes' rfl rfl)
  exact hreplied.trans (congrArg Host.Outcome.next hanswered)

/-! ### COUNTERS_READ (R164) -/

theorem clearCounters_get (ids : List (Fin 38)) (v : Vector Nat 38) (c : Fin 38) :
    (clearCounters ids v).get c = if c ∈ ids then 0 else v.get c := by
  induction ids generalizing v with
  | nil => rfl
  | cons d rest ih =>
    rw [clearCounters, List.foldl_cons, ← clearCounters, ih]
    by_cases hrest : c ∈ rest
    · rw [if_pos hrest, if_pos (List.mem_cons_of_mem _ hrest)]
    · by_cases hd : c = d
      · rw [if_neg hrest, hd, if_pos List.mem_cons_self]
        simp [Vector.get_eq_getElem]
      · have hne : d.val ≠ c.val := fun h => hd (Fin.ext h.symm)
        rw [if_neg hrest, if_neg (fun h => (List.mem_cons.1 h).elim hd hrest)]
        simp [Vector.get_eq_getElem, hne]

theorem countersReadOwner_bad {groups clear : Byte} (s : State)
    (h : groups.toNat = 0 ∨ 64 ≤ groups.toNat ∨ 1 < clear.toNat) :
    countersReadOwner groups clear s = (s, .plain .badValue) := if_pos h

/-- The state after a counters read. -/
def State.countersTaken (s : State) (groups clear : Byte) : State :=
  if clear.toNat = 1 then { s with sup := { s.sup with counters := clearCounters (chosenCounters groups) s.sup.counters } }
  else s

theorem countersReadOwner_good {groups clear : Byte} (s : State)
    (h : ¬(groups.toNat = 0 ∨ 64 ≤ groups.toNat ∨ 1 < clear.toNat)) :
    countersReadOwner groups clear s = (s.countersTaken groups clear,
      .one .accepted ((chosenCounters groups).flatMap fun c => bigEndian 2 (s.sup.counters.get c))) := by
  rw [countersReadOwner, if_neg h, State.countersTaken]
  dsimp only
  split <;> rfl

theorem State.countersTaken_eq (s : State) (groups clear : Byte) :
    s.countersTaken groups clear = { s with sup := { s.sup with counters := (s.countersTaken groups clear).sup.counters } } := by
  rw [State.countersTaken]
  split <;> rfl

theorem State.countersTaken_get (s : State) (groups clear : Byte) (c : Fin 38) :
    (s.countersTaken groups clear).sup.counters.get c =
      if clear.toNat = 1 ∧ c ∈ chosenCounters groups then 0 else s.sup.counters.get c := by
  rw [State.countersTaken]
  by_cases hclear : clear.toNat = 1
  · rw [if_pos hclear]
    simp only [clearCounters_get, hclear, true_and]
  · rw [if_neg hclear, if_neg fun h => hclear h.1]

/-- COUNTERS_READ answers the chosen counters as they stand. -/
theorem exec_countersRead {s : State} {src tag groups clear : Byte} (htakes : s.Takes src 1)
    (h : ¬(groups.toNat = 0 ∨ 64 ≤ groups.toNat ∨ 1 < clear.toNat)) :
    exec (.countersRead src tag groups clear) s = .next ((s.countersTaken groups clear).answered src 21 tag
      (.one .accepted ((chosenCounters groups).flatMap fun c => bigEndian 2 (s.sup.counters.get c)))) := by
  have hrif : ∀ t : State, (t.countersTaken groups clear).rif = t.rif := fun t => by
    rw [State.countersTaken_eq]
  refine exec_answered (v := ⟨src, 21, tag, fun _ => 1, countersReadOwner groups clear, false⟩) rfl htakes
    ((countersReadOwner_good (s.serving 1) h).trans ?_) (hrif s) Bool.noConfusion
  rw [State.countersTaken, State.countersTaken]
  split <;> rfl

/-- Settles O34: the two parts of the picture are fields one behind the other, taken before the flags fall; a read of
counters answers those of the chosen groups before it clears them. -/
theorem statusAndCountersReadsClearWhatTheyShow : Obligations.StatusAndCountersReadsClearWhatTheyShow := by
  unfold Obligations.StatusAndCountersReadsClearWhatTheyShow
  refine ⟨fun src tag s htakes => ⟨exec_statusRead htakes, statusPartOne_length s, statusPartTwo_length s,
    statusPartOne_head s, statusPartOne_level s, statusPartOne_input s, statusPartTwo_counts s,
    fun k l hk hl => statusPartTwo_lot hk hl, fun k hlength hk => statusPartTwo_noLot hlength hk,
    fun k e hk he => statusPartTwo_box hk he, fun k hlength hk => statusPartTwo_noBox hlength hk⟩, ?_⟩
  intro src tag groups clear s htakes run group bad chosen
  have hzero : groups = 0 ↔ groups.toNat = 0 := ⟨fun h => h ▸ rfl, fun h => BitVec.eq_of_toNat_eq h⟩
  have hone : clear = 1 ↔ clear.toNat = 1 := ⟨fun h => h ▸ rfl, fun h => BitVec.eq_of_toNat_eq h⟩
  have hgroup : ∀ c, group c = counterGroup c := by decide
  have hchosen : chosen = chosenCounters groups :=
    List.filter_congr fun c _ => congrArg _ (hgroup c)
  refine ⟨fun h => ?_, fun h => ?_⟩
  · exact exec_answered (t := s) (v := ⟨src, 21, tag, fun _ => 1, countersReadOwner groups clear, false⟩) rfl htakes
      (countersReadOwner_bad (s.serving 1) (h.imp_left hzero.1)) rfl Bool.noConfusion
  · refine ⟨s.countersTaken groups clear, ?_, s.countersTaken_eq groups clear, fun c => ?_⟩
    · rw [hchosen]
      exact exec_countersRead htakes fun h' => h (h'.imp_left hzero.2)
    · rw [hchosen, s.countersTaken_get groups clear c]
      simp only [hone]

end Sys2Proof.Machine

/-! ## What a lot's end and a retirement leave alone -/

namespace Sys2Proof.Machine

/-- LOT's own work with the faults and notices it gives rise to: the lots change, faults are logged and wait, notices join
the management queue; no other block, no line state and no line frame is touched. -/
structure State.Tells (s t : State) : Prop where
  frame : t = { s with lot := t.lot, sup := t.sup, rif := t.rif, free := t.free }
  line : t.sup.line = s.sup.line
  reason : t.sup.reason = s.sup.reason
  wire : s.rif.tx ≠ .idle → ∃ told, t.rif = { s.rif with management := s.rif.management ++ told }

namespace State.Tells

theorem refl (s : State) : s.Tells s where
  frame := rfl
  line := rfl
  reason := rfl
  wire _ := ⟨[], by rw [List.append_nil]⟩

theorem trans {s t u : State} (h : s.Tells t) (h' : t.Tells u) : s.Tells u where
  frame := by
    rw [h'.frame, h.frame]
  line := h'.line.trans h.line
  reason := h'.reason.trans h.reason
  wire hbusy := by
    obtain ⟨told, htold⟩ := h.wire hbusy
    obtain ⟨more, hmore⟩ := h'.wire (by rw [htold]; exact hbusy)
    exact ⟨told ++ more, by rw [hmore, htold, List.append_assoc]⟩

theorem lots (u : LotUnit) (s : State) : s.Tells { s with lot := u } where
  frame := rfl
  line := rfl
  reason := rfl
  wire _ := ⟨[], by rw [List.append_nil]⟩

theorem chosen (n : Nat) (s : State) : s.Tells { s with free := n } where
  frame := rfl
  line := rfl
  reason := rfl
  wire _ := ⟨[], by rw [List.append_nil]⟩

theorem notice (n : Notice) (s : State) : s.Tells (s.notice n) where
  frame := by rw [State.notice_eq]
  line := s.notice_sup_line n
  reason := s.notice_sup_reason n
  wire hbusy := by
    rcases s.notice_cases n with ⟨-, h⟩ | ⟨-, h⟩
    · exact ⟨[_], by rw [h, ← Rif.pushManagement_busy _ _ hbusy]⟩
    · exact ⟨[], by rw [h, List.append_nil]; rfl⟩

theorem raise (k : FaultKind) (e : Effect) (d : Detail) (s : State) : s.Tells (s.raise k e d) := by
  have hlogged : s.Tells { s with sup := s.faultSup k e s.pitch d } :=
    ⟨rfl, rfl, rfl, fun _ => ⟨[], by rw [List.append_nil]⟩⟩
  rw [State.raise, State.raiseAt_notice]
  exact hlogged.trans (notice _ _)

theorem raises (order : List BoxEntry) (s : State) : s.Tells (order.foldl State.raiseLate s) := by
  induction order generalizing s with
  | nil => exact refl s
  | cons e rest ih => exact (raise .boxLate .stop (.key e.batch.key) s).trans (ih _)

theorem raiseAllLate (late : List BoxEntry) (s : State) : s.Tells (State.raiseAllLate late s) := by
  match late with
  | [] => exact refl s
  | [e] => exact raises [e] s
  | e :: e' :: rest => exact (chosen (s.free + 1) s).trans (raises _ _)

theorem completeBatch (k : LotKey) (unmarkedEnd : Bool) (s : State) : s.Tells (s.completeBatch k unmarkedEnd) := by
  cases hfound : s.findLot k with
  | none =>
    rw [State.completeBatch, hfound]
    exact refl s
  | some l =>
    by_cases hroom : s.lot.boxes.length < 2
    · rw [State.completeBatch_room unmarkedEnd hfound hroom]
      exact (lots _ s).trans (notice _ _)
    · rw [State.completeBatch_full unmarkedEnd hfound (Nat.not_lt.1 hroom)]
      exact ((lots _ s).trans (raise _ _ _ _)).trans (notice _ _)

theorem dissolveLot (l : Lot) (skip : Nat) (s : State) : s.Tells (s.dissolveLot l skip).1 :=
  (notice _ s).trans (lots _ _)

theorem endLot (k : LotKey) (skip : Nat) (s : State) : s.Tells (s.endLot k skip).1 := by
  cases hfound : s.findLot k with
  | none =>
    rw [State.endLot_missing hfound]
    exact refl s
  | some l =>
    by_cases hlast : 0 < l.delivered ∨ l.contaminated = true
    · rw [State.endLot_batch hfound skip hlast]
      exact (completeBatch k true s).trans (dissolveLot _ skip _)
    · rw [State.endLot_clean hfound skip hlast]
      exact dissolveLot l skip s

theorem endIfDone (k : LotKey) (s : State) : s.Tells (s.endIfDone k) := by
  unfold State.endIfDone
  split
  · exact refl s
  · split
    · exact endLot k 0 s
    · exact refl s

theorem retireLot (r : Record) (s : State) : s.Tells (s.retireLot r) := by
  have hmoved : s.Tells (s.writeLot r.lot fun l => l.retire r.final).moveDeadlines :=
    ((lots _ s).trans (lots _ _)).trans (raiseAllLate _ _)
  unfold State.retireLot
  dsimp only
  refine (hmoved.trans ?_).trans (endIfDone _ _)
  split
  · exact completeBatch _ _ _
  · split
    · exact completeBatch _ _ _
    · exact refl _

end State.Tells

theorem endAll_tells (keys : List LotKey) (skip ended : Nat) (s : State) : s.Tells (endAll keys skip ended s).1 := by
  induction keys generalizing skip ended s with
  | nil => exact .refl s
  | cons k rest ih => exact (State.Tells.endLot k skip s).trans (ih _ _ _)

/-! ### The end of a run-out, with or without room for its frames -/

/-- A frame is placed or lost: SUP and RIF alone change, and the line stays. -/
theorem State.placeOutbound_frame (f : OutFrame) (s : State) :
    s.placeOutbound f = { s with sup := (s.placeOutbound f).sup, rif := (s.placeOutbound f).rif } := by
  rcases s.placeOutbound_cases f with ⟨-, h⟩ | ⟨-, -, h⟩ | ⟨-, -, h⟩
  · rw [h]
  · rw [h]
  · rw [h, State.raise, State.raiseAt_eq]

theorem State.runoutChannel_frame (s : State) (c : Fin 24) :
    s.runoutChannel c = { s with
      sup := (s.runoutChannel c).sup, rif := (s.runoutChannel c).rif, cam := (s.runoutChannel c).cam } ∧
    (s.runoutChannel c).sup.line = s.sup.line ∧ (s.runoutChannel c).sup.reason = s.sup.reason ∧
    ∀ d, (s.runoutChannel c).camChannel d = if d = c then (s.camChannel c).ranOut else s.camChannel d := by
  unfold State.runoutChannel
  cases ha : (s.camChannel c).activeOff with
  | none =>
    refine ⟨rfl, rfl, rfl, fun d => ?_⟩
    dsimp only
    rw [State.setCam_camChannel, CamChannel.ranOut, ha]
    rfl
  | some a =>
    let counted := State.countEdge c (s.offFiring c a) (s.bumpIf (s.offByAngle c a < a.minOff) ctrDwellExtends)
    let f := counted.timed c false (s.offFiring c a) a.serial
    have hcounted : counted = { s with sup := { s.sup with counters := counted.sup.counters } } := by
      have hbumped := State.bumpIf_eq (s.offByAngle c a < a.minOff) ctrDwellExtends s
      refine (State.countEdge_eq _ _ _).trans ?_
      show _ = { s with sup := { s.sup with counters := State.edgeCounters _ c (s.offFiring c a) } }
      generalize State.edgeCounters _ c (s.offFiring c a) = counters
      rw [hbumped]
    have hissued : s.issueOff c a =
        (counted.placeOutbound f).setCam c fun x =>
          gateZero (s.channel c).function { x with level := .off, activeOff := none } := rfl
    have hframe := counted.placeOutbound_frame f
    have hline := counted.placeOutbound_sup_line f
    have hreason := counted.placeOutbound_sup_reason f
    dsimp only
    rw [hissued]
    generalize counted.placeOutbound f = placed at hframe hline hreason
    generalize counted = u at hframe hline hreason hcounted
    refine ⟨?_, ?_, ?_, fun d => ?_⟩
    · rw [hframe, hcounted]
      rfl
    · exact hline.trans (by rw [hcounted])
    · exact hreason.trans (by rw [hcounted])
    · have hcam : placed.cam = s.cam := by rw [hframe, hcounted]
      rw [State.setCam_camChannel]
      simp only [State.setCam_camChannel]
      have hget : ∀ e, placed.camChannel e = s.camChannel e := fun e => congrArg (fun v => Vector.get v e) hcam
      simp only [hget, CamChannel.ranOut, ha, gateZero]
      by_cases hd : d = c
      · subst hd
        simp only [if_true]
        split <;> rfl
      · simp only [if_neg hd]

theorem State.foldl_runoutChannel_frame (l : List (Fin 24)) (hl : l.Nodup) (s : State) :
    ∃ sup rif cam, l.foldl State.runoutChannel s = { s with sup := sup, rif := rif, cam := cam } ∧
      sup.line = s.sup.line ∧ sup.reason = s.sup.reason ∧
      ∀ d, cam.get d = if d ∈ l then (s.camChannel d).ranOut else s.camChannel d := by
  induction l generalizing s with
  | nil => exact ⟨s.sup, s.rif, s.cam, rfl, rfl, rfl, fun _ => rfl⟩
  | cons c rest ih =>
    obtain ⟨hc, hrest⟩ := List.nodup_cons.mp hl
    obtain ⟨hframe, hline, hreason, hcam⟩ := s.runoutChannel_frame c
    rw [List.foldl_cons]
    generalize s.runoutChannel c = t at hframe hline hreason hcam
    obtain ⟨sup, rif, cam, hfold, hline', hreason', hget⟩ := ih hrest t
    refine ⟨sup, rif, cam, ?_, hline'.trans hline, hreason'.trans hreason, fun d => ?_⟩
    · rw [hfold, hframe]
    · rw [hget, hcam]
      by_cases hdc : d = c
      · subst hdc
        simp [hc]
      · simp [hdc]

/-- The end of a run-out (R149): what it leaves, and what it sets, whether or not its frames have room. -/
theorem State.completeRunout_frame (s : State) :
    ∃ sup rif cam, s.completeRunout = { s with
        sup := sup, rif := rif, cam := cam, reg := { s.reg with lock := .off, matchCount := 0, missCount := 0 } } ∧
      sup.line = .idle ∧ sup.reason = s.sup.reason ∧ ∀ c, cam.get c = (s.camChannel c).ranOut := by
  obtain ⟨sup, rif, cam, hfold, hline, hreason, hcam⟩ :=
    State.foldl_runoutChannel_frame channelIds (List.nodup_finRange 24) (s.setLine .idle s.sup.reason)
  unfold State.completeRunout
  dsimp only
  rw [State.camRunoutEnd_eq, hfold]
  have hget : ∀ c, cam.get c = (s.camChannel c).ranOut := fun c => (hcam c).trans (if_pos (channelIds_mem c))
  generalize hw : State.regOff { s.setLine .idle s.sup.reason with sup := sup, rif := rif, cam := cam } = w
  have hplaced := w.placeOutbound_frame (.drive w.settings.driveNode .stop)
  have hpline := w.placeOutbound_sup_line (.drive w.settings.driveNode .stop)
  have hpreason := w.placeOutbound_sup_reason (.drive w.settings.driveNode .stop)
  change w.placeDrive .stop = _ at hplaced
  change (w.placeDrive .stop).sup.line = _ at hpline
  change (w.placeDrive .stop).sup.reason = _ at hpreason
  generalize w.placeDrive .stop = p at hplaced hpline hpreason
  refine ⟨(p.lineNotice s.sup.line).sup, (p.lineNotice s.sup.line).rif, cam, ?_, ?_, ?_, hget⟩
  · rw [State.lineNotice, State.notice_eq, hplaced, ← hw]
    rfl
  · rw [State.lineNotice_sup_line, hpline, ← hw]
    exact hline
  · rw [State.lineNotice, State.notice_sup_reason, hpreason, ← hw]
    exact hreason

end Sys2Proof.Machine

/-! ## Settled: batches, retirement and box taking (O52) -/

namespace Sys2Proof.Machine

/-! ### A batch completed -/

theorem State.completeBatch_middle {front back : List Lot} {l : Lot} {s : State} (unmarkedEnd : Bool)
    (htable : s.lot.table = front ++ l :: back) (hkeys : ∀ x ∈ front ++ back, x.key ≠ l.key) :
    let moved := fun boxes : List BoxEntry =>
      { s with lot := { s.lot with boxes := boxes, table := front ++ l.batchDone :: back } }
    (s.lot.boxes.length < 2 → s.completeBatch l.key unmarkedEnd =
      (moved (s.lot.boxes ++ [⟨batchOf l unmarkedEnd, s.settings.boxDeadline⟩])).notice
        (.batchDone (batchOf l unmarkedEnd) true (s.lot.boxes.length + 1))) ∧
    (2 ≤ s.lot.boxes.length → s.completeBatch l.key unmarkedEnd =
      ((moved s.lot.boxes).raise .boxOverflow .safe (.key l.key)).notice
        (.batchDone (batchOf l unmarkedEnd) false s.lot.boxes.length)) := by
  intro moved
  have hfound := State.findLot_middle htable hkeys
  have hwritten := State.writeLot_middle Lot.batchDone htable hkeys
  refine ⟨fun hroom => ?_, fun hfull => ?_⟩
  · rw [State.completeBatch_room unmarkedEnd hfound hroom, hwritten]
  · rw [State.completeBatch_full unmarkedEnd hfound hfull, hwritten]

/-! ### The box deadlines -/

/-- Entries that come due together are late in one order or the other (R123). -/
theorem State.raiseAllLate_eq (late : List BoxEntry) (s : State) : ∃ order : List BoxEntry, order.Perm late ∧
    State.raiseAllLate late s =
      order.foldl State.raiseLate { s with free := if 2 ≤ late.length then s.free + 1 else s.free } := by
  match late with
  | [] => exact ⟨[], .refl _, rfl⟩
  | [e] => exact ⟨[e], .refl _, rfl⟩
  | e :: e' :: rest =>
    have hmany : 2 ≤ (e :: e' :: rest).length := by simp
    rw [if_pos hmany]
    refine ⟨if Config.pick s.free % 2 = 0 then e :: e' :: rest else (e :: e' :: rest).reverse, ?_, rfl⟩
    split
    · exact .refl _
    · exact List.reverse_perm _

theorem State.moveDeadlines_eq (s : State) :
    let late := s.lot.boxes.filter fun e => e.deadline == 1
    ∃ order : List BoxEntry, order.Perm late ∧ s.moveDeadlines = order.foldl State.raiseLate
      { s with
        lot := { s.lot with boxes := s.lot.boxes.map fun e => { e with deadline := e.deadline - 1 } }
        free := if 2 ≤ late.length then s.free + 1 else s.free } :=
  State.raiseAllLate_eq _ _

theorem State.foldl_raiseLate_lot (order : List BoxEntry) (s : State) : (order.foldl State.raiseLate s).lot = s.lot := by
  induction order generalizing s with
  | nil => rfl
  | cons e rest ih => exact (ih _).trans (State.raise_lot _ _ _ s)

/-! ### A record handed to its lot -/

/-- What a retired record adds to the counts of its lot (R118, R119). -/
theorem Lot.retire_eq {l : Lot} (f : Option Final) (hdiverted : l.diverted < 4294967295)
    (hundiverted : l.undiverted < 4294967295) :
    let stacked := if f = some .good then 1 else 0
    l.retire f = { l with
      inFlight := l.inFlight - 1, stacked := l.stacked + stacked, delivered := l.delivered + stacked
      diverted := l.diverted + if f = some .diverted then 1 else 0
      undiverted := l.undiverted + if f = some .undiverted then 1 else 0
      contaminated := l.contaminated || f == some .undiverted } := by
  match f with
  | none => simp [Lot.retire]
  | some .good => simp [Lot.retire]
  | some .diverted => simp [Lot.retire, countUp, hdiverted]
  | some .undiverted => simp [Lot.retire, countUp, hundiverted]

theorem State.endIfDone_found {k : LotKey} {l : Lot} {s : State} (h : s.findLot k = some l) :
    s.endIfDone k = if l.state = .closed ∧ l.inFlight = 0 then (s.endLot k 0).1 else s := by
  rw [State.endIfDone, h]

/-- The completion a retirement brings (R121). -/
def Record.completes (r : Record) (k : LotKey) (s : State) : State :=
  if r.batchEnd then s.completeBatch k false else if r.unmarkedEnd then s.completeBatch k true else s

theorem State.retireLot_eq (r : Record) (s : State) :
    s.retireLot r = (r.completes r.lot (s.writeLot r.lot fun l => l.retire r.final).moveDeadlines).endIfDone r.lot := rfl

theorem Record.completes_yes {r : Record} (k : LotKey) (s : State) (h : r.batchEnd = true ∨ r.unmarkedEnd = true) :
    r.completes k s = s.completeBatch k (!r.batchEnd) := by
  rw [Record.completes]
  cases hend : r.batchEnd with
  | true => rfl
  | false => exact if_pos (h.resolve_left (by rw [hend]; exact Bool.noConfusion))

theorem Record.completes_no {r : Record} (k : LotKey) (s : State) (h : ¬(r.batchEnd = true ∨ r.unmarkedEnd = true)) :
    r.completes k s = s := by
  rw [Record.completes, if_neg fun hend => h (.inl hend), if_neg fun hend => h (.inr hend)]

/-- The lot of a retirement keeps its state and its count of records in flight through a completion. -/
theorem Record.completes_found {r : Record} {k : LotKey} {l : Lot} {s : State} (h : s.findLot k = some l) :
    ∃ l', (r.completes k s).findLot k = some l' ∧ l'.state = l.state ∧ l'.inFlight = l.inFlight := by
  rw [Record.completes]
  split
  · exact ⟨l.batchDone, State.completeBatch_found h false, rfl, rfl⟩
  · split
    · exact ⟨l.batchDone, State.completeBatch_found h true, rfl, rfl⟩
    · exact ⟨l, h, rfl, rfl⟩

/-- A retirement: the count, the deadlines, the completion, and the end of a CLOSED lot (R118). -/
theorem State.retireLot_steps {r : Record} {front back : List Lot} {l : Lot} {s : State}
    (htable : s.lot.table = front ++ l :: back) (hlot : l.key = r.lot) (hkeys : ∀ x ∈ front ++ back, x.key ≠ l.key) :
    let late := s.lot.boxes.filter fun e => e.deadline == 1
    let counted := { s with
      lot := { s.lot with
        boxes := s.lot.boxes.map fun e => { e with deadline := e.deadline - 1 }
        table := front ++ l.retire r.final :: back }
      free := if 2 ≤ late.length then s.free + 1 else s.free }
    ∃ order : List BoxEntry, order.Perm late ∧
      let u := r.completes l.key (order.foldl State.raiseLate counted)
      s.retireLot r = if l.state = .closed ∧ l.inFlight ≤ 1 then (u.endLot l.key 0).1 else u := by
  intro late counted
  have hretired := l.retire_standing r.final
  obtain ⟨hkey, hstate, hflight⟩ : (l.retire r.final).key = l.key ∧ (l.retire r.final).state = l.state ∧
      (l.retire r.final).inFlight = l.inFlight - 1 := by
    rw [Lot.standing] at hretired
    exact ⟨congrArg Prod.fst hretired, congrArg (·.2.1) hretired, congrArg (·.2.2) hretired⟩
  have hwritten := State.writeLot_middle (fun x => x.retire r.final) htable hkeys
  obtain ⟨order, hperm, hmoved⟩ := State.moveDeadlines_eq (s.writeLot l.key fun x => x.retire r.final)
  rw [hwritten] at hmoved hperm
  refine ⟨order, hperm, ?_⟩
  intro u
  have hmoved' : (s.writeLot r.lot fun x => x.retire r.final).moveDeadlines = order.foldl State.raiseLate counted := by
    rw [← hlot, hwritten]
    exact hmoved
  have hfound : (order.foldl State.raiseLate counted).findLot l.key = some (l.retire r.final) := by
    have hcounted : counted.findLot (l.retire r.final).key = some (l.retire r.final) :=
      State.findLot_middle (front := front) (back := back) rfl fun x hx => hkey ▸ hkeys x hx
    rw [hkey] at hcounted
    rw [State.findLot, State.foldl_raiseLate_lot]
    exact hcounted
  obtain ⟨l', hfound', hstate', hflight'⟩ := Record.completes_found (r := r) hfound
  have hdone : (l'.state = .closed ∧ l'.inFlight = 0) = (l.state = .closed ∧ l.inFlight ≤ 1) := by
    rw [hstate', hflight', hstate, hflight]
    exact propext (and_congr_right fun _ => by omega)
  rw [State.retireLot_eq, hmoved', ← hlot, State.endIfDone_found hfound']
  simp only [hdone]
  rfl

/-! ### The head of the queue retired -/

theorem reached_iff (previous new position : Nat) :
    reached previous new position = true ↔ previous < position ∧ position ≤ new := by
  rw [reached, Bool.and_eq_true, decide_eq_true_eq, decide_eq_true_eq]
  omega

theorem State.trqAdvance_still {previous new : Nat} {s : State} (h : s.running = false ∨ s.trq.queue = []) :
    s.trqAdvance previous new = s := by
  unfold State.trqAdvance
  split
  · next hrunning =>
    rw [h.resolve_left (by rw [hrunning]; exact Bool.noConfusion)]
  · rfl

/-- The record at the head left behind. -/
def State.headRetired (s : State) (r : Record) (rest : List Record) : State :=
  { s.retireLot r with trq := { s.trq with queue := rest } }

theorem State.trqAdvance_head {previous new : Nat} {s : State} {r : Record} {rest : List Record} (hrunning : s.running = true)
    (hqueue : s.trq.queue = r :: rest) :
    let position := (r.birth + s.settings.deliveryOffset + 1) * 4096
    s.trqAdvance previous new = if previous < position ∧ position ≤ new then
      (if rest = [] ∧ s.sup.line = .runout then (s.headRetired r rest).completeRunout else s.headRetired r rest) else s := by
  intro position
  have hline : (s.retireLot r).sup.line = s.sup.line := (State.Tells.retireLot r s).line
  have htrq : (s.retireLot r).trq = s.trq := by rw [(State.Tells.retireLot r s).frame]
  unfold State.trqAdvance
  rw [if_pos hrunning, hqueue]
  dsimp only
  rw [hline, htrq]
  have hreached : (reached previous new (((r.birth + s.settings.deliveryOffset + 1) * Config.pitchCounts : Nat) : Int) = true) =
      (previous < position ∧ position ≤ new) := propext (reached_iff previous new position)
  have hempty : (rest.isEmpty = true ∧ s.sup.line = .runout) = (rest = [] ∧ s.sup.line = .runout) := by
    rw [List.isEmpty_iff]
  simp only [hreached, hempty]
  rfl

/-- The last record of a run-out: the line comes to IDLE (R149). -/
theorem State.headRetired_completes (s : State) (r : Record) :
    let left := s.headRetired r []
    let t := left.completeRunout
    t.sup.line = .idle ∧ t.sup.reason = s.sup.reason ∧ t.trq = { s.trq with queue := [] } ∧ t.lot = left.lot ∧
      t.pos = s.pos ∧ t.store = s.store ∧ t.chk = s.chk ∧
      t.reg = { s.reg with lock := .off, matchCount := 0, missCount := 0 } ∧
      ∀ c, t.camChannel c = (s.camChannel c).ranOut := by
  intro left t
  have htells := State.Tells.retireLot r s
  obtain ⟨sup, rif, cam, hcomplete, hidle, hreason, hcam⟩ := left.completeRunout_frame
  have hleft : left = { s.retireLot r with trq := { s.trq with queue := [] } } := rfl
  have ht : t = _ := hcomplete
  generalize t = u at ht
  rw [ht]
  dsimp only
  refine ⟨hidle, hreason.trans htells.reason, ?_, rfl, ?_, ?_, ?_, ?_, fun c => (hcam c).trans ?_⟩
  case refine_6 =>
    rw [hleft, htells.frame]
    rfl
  all_goals rw [hleft, htells.frame]

theorem State.lineNotice_outbound (previous : LineState) {s : State} (hbusy : s.rif.tx ≠ .idle) :
    (s.lineNotice previous).rif.outbound = s.rif.outbound :=
  (State.notice_rif hbusy).2.1

/-- The frames of the completed run-out, on a busy wire with room. -/
theorem State.headRetired_frames {s : State} {r : Record} (hbusy : s.rif.tx ≠ .idle) (hroom : s.rif.outbound.length ≤ 39) :
    (s.headRetired r []).completeRunout.rif.outbound =
      s.rif.outbound ++ s.lastOffs channelIds ++ [.drive s.settings.driveNode .stop] := by
  have htells := State.Tells.retireLot r s
  obtain ⟨told, hrif⟩ := htells.wire hbusy
  have hleftRif : (s.headRetired r []).rif = { s.rif with management := s.rif.management ++ told } := hrif
  have hoffs : (s.headRetired r []).lastOffs channelIds = s.lastOffs channelIds := by
    rw [State.headRetired, htells.frame]
    rfl
  have hdrive : (s.headRetired r []).settings = s.settings := by
    rw [State.headRetired, htells.frame]
    rfl
  obtain ⟨counters, cam, hcomplete, -⟩ := State.completeRunout_eq (s.headRetired r []) (by rw [hleftRif]; exact hroom)
  rw [hoffs, hdrive, hleftRif, Rif.pushAll_busy _ _ (by exact hbusy)] at hcomplete
  rw [hcomplete]
  refine (State.lineNotice_outbound _ ?_).trans (List.append_assoc _ _ _).symm
  exact hbusy

/-- Settles O52: a completion as LOT_CANCEL's and the purge's, a retirement by its steps, the retired head of the queue,
and the end of a run-out whether or not its frames find room. -/
theorem retirementAndBoxTaking : Obligations.RetirementAndBoxTaking := by
  unfold Obligations.RetirementAndBoxTaking
  refine ⟨fun front back l unmarkedEnd s htable hkeys => State.completeBatch_middle unmarkedEnd htable hkeys, ?_, ?_, ?_⟩
  · intro r front back l s htable hlot hkeys hdiverted hundiverted stacked completes late counted
    obtain ⟨order, hperm, hretired⟩ := State.retireLot_steps htable hlot hkeys
    rw [Lot.retire_eq r.final hdiverted hundiverted] at hretired
    refine ⟨order, _, _, hperm, rfl, fun h => Record.completes_yes _ _ h, fun h => Record.completes_no _ _ h,
      fun h => ?_, fun hclosed hflight => ?_⟩
    · exact hretired.trans (if_neg fun hdone => h.elim (fun hopen => hopen hdone.1) fun hmore => by omega)
    · exact hretired.trans (if_pos ⟨hclosed, hflight⟩)
  · intro previous new s t
    refine ⟨State.trqAdvance_still, ?_⟩
    intro r rest hrunning hqueue position left
    have hhead := State.trqAdvance_head (previous := previous) (new := new) hrunning hqueue
    refine ⟨fun hnot => hhead.trans (if_neg hnot), fun hbefore hreached hmore => ?_, ?_⟩
    · refine (hhead.trans (if_pos ⟨hbefore, hreached⟩)).trans (if_neg fun hend => ?_)
      rcases hmore with hrest | hrun
      · exact hrest hend.1
      · exact LineState.noConfusion (hrun.symm.trans hend.2)
    · rintro hbefore hreached rfl hrunout
      have ht : t = (s.headRetired r []).completeRunout :=
        (hhead.trans (if_pos ⟨hbefore, hreached⟩)).trans (if_pos ⟨rfl, hrunout⟩)
      obtain ⟨hidle, hreason, htrq, hlots, hpos, hstore, hchk, hreg, hcam⟩ := s.headRetired_completes r
      rw [ht]
      refine ⟨hidle, hreason, htrq, hlots, hpos, hstore, hchk, hreg, fun c => ?_, fun hbusy hroom => ?_⟩
      · exact (hcam c).trans rfl
      · exact ⟨s.lastOffs channelIds, State.headRetired_frames hbusy hroom, .refl _⟩
  · intro s
    refine ⟨fun e rest hboxes => ?_, fun hboxes => ?_⟩
    · rw [State.boxTaken, hboxes]
    · rw [State.boxTaken, hboxes]
      rfl

end Sys2Proof.Machine

/-! ## What CAM's work leaves of the records, the lots and the line -/

namespace Sys2Proof.Machine

/-- What of a record and of a lot no edge and no final point changes. -/
def Record.identity (r : Record) : Nat × Nat × LotKey × Fin 16 := (r.serial, r.birth, r.lot, r.format)

def Lot.holding (l : Lot) : LotKey × LotState × Nat × Nat := (l.key, l.state, l.cut, l.inFlight)

/-- The line, the records with their identities and the lots with their cut and in-flight counts stay. -/
structure State.Retains (s t : State) : Prop where
  line : t.sup.line = s.sup.line
  serial : t.trq.serial = s.trq.serial
  records : t.trq.queue.map Record.identity = s.trq.queue.map Record.identity
  keys : t.lot.table.map Lot.key = s.lot.table.map Lot.key
  lots : ∀ l ∈ t.lot.table, ∃ x ∈ s.lot.table, x.holding = l.holding

namespace State.Retains

theorem refl (s : State) : s.Retains s := ⟨rfl, rfl, rfl, rfl, fun l hl => ⟨l, hl, rfl⟩⟩

theorem trans {s t u : State} (h : s.Retains t) (h' : t.Retains u) : s.Retains u where
  line := h'.line.trans h.line
  serial := h'.serial.trans h.serial
  records := h'.records.trans h.records
  keys := h'.keys.trans h.keys
  lots l hl := by
    obtain ⟨x, hx, hxl⟩ := h'.lots l hl
    obtain ⟨y, hy, hyx⟩ := h.lots x hx
    exact ⟨y, hy, hyx.trans hxl⟩

/-- A change of other blocks. -/
theorem of_eq {s t : State} (hline : t.sup.line = s.sup.line) (htrq : t.trq = s.trq) (hlot : t.lot = s.lot) :
    s.Retains t where
  line := hline
  serial := congrArg Trq.serial htrq
  records := by rw [htrq]
  keys := by rw [hlot]
  lots l hl := ⟨l, by rw [← hlot]; exact hl, rfl⟩

theorem foldl {α : Type} {f : State → α → State} (h : ∀ (s : State) a, s.Retains (f s a)) (l : List α) (s : State) :
    s.Retains (l.foldl f s) := by
  induction l generalizing s with
  | nil => exact refl s
  | cons a rest ih => exact (h s a).trans (ih _)

theorem bumpIf (p : Bool) (c : Fin 38) (s : State) : s.Retains (s.bumpIf p c) := by
  rw [State.bumpIf_eq]
  exact of_eq rfl rfl rfl

theorem raise (k : FaultKind) (e : Effect) (d : Detail) (s : State) : s.Retains (s.raise k e d) :=
  of_eq (s.raise_sup_line k e d) (s.raise_trq k e d) (s.raise_lot k e d)

theorem placeOutbound (f : OutFrame) (s : State) : s.Retains (s.placeOutbound f) :=
  of_eq (s.placeOutbound_sup_line f) (s.placeOutbound_trq f) (s.placeOutbound_lot f)

theorem setCam (c : Fin 24) (f : CamChannel → CamChannel) (s : State) : s.Retains (s.setCam c f) := of_eq rfl rfl rfl

theorem writeRecord (serial : Nat) (f : Record → Record) (s : State) (h : ∀ r, (f r).identity = r.identity := by intros; rfl) :
    s.Retains (s.writeRecord serial f) where
  line := rfl
  serial := rfl
  records := by
    show (s.trq.queue.map fun r => if r.serial = serial then f r else r).map Record.identity = _
    rw [List.map_map]
    refine List.map_congr_left fun r _ => ?_
    show (if r.serial = serial then f r else r).identity = r.identity
    split
    · exact h r
    · rfl
  keys := rfl
  lots l hl := ⟨l, hl, rfl⟩

/-- A write that gives every lot of a key the holding of one of them. -/
theorem writeLot {k : LotKey} {f : Lot → Lot} {s : State}
    (h : ∀ x ∈ s.lot.table, x.key = k → (f x).key = k ∧ ∃ y ∈ s.lot.table, y.holding = (f x).holding) :
    s.Retains (s.writeLot k f) where
  line := rfl
  serial := rfl
  records := rfl
  keys := by
    show (s.lot.table.map fun x => if x.key = k then f x else x).map Lot.key = _
    rw [List.map_map]
    refine List.map_congr_left fun x hx => ?_
    show (if x.key = k then f x else x).key = x.key
    split
    · next hk => exact (h x hx hk).1.trans hk.symm
    · rfl
  lots l hl := by
    obtain ⟨x, hx, rfl⟩ := List.mem_map.1 hl
    split
    · next hk => exact (h x hx hk).2
    · exact ⟨x, hx, rfl⟩

theorem eitherOrder {f g : State → State} (hf : ∀ s : State, s.Retains (f s)) (hg : ∀ s : State, s.Retains (g s)) (s : State) :
    s.Retains (eitherOrder f g s) := by
  have hchosen : s.Retains s.choose.2 := of_eq rfl rfl rfl
  show s.Retains (if _ then g (f s.choose.2) else f (g s.choose.2))
  split
  · exact hchosen.trans ((hf _).trans (hg _))
  · exact hchosen.trans ((hg _).trans (hf _))

theorem addDefect (serial : Nat) (reason : Reason) (s : State) : s.Retains (s.addDefect serial reason) := by
  unfold State.addDefect State.writeDefect
  split
  · exact of_eq rfl rfl rfl
  · split
    · exact of_eq rfl rfl rfl
    · exact (writeRecord serial _ s).trans (bumpIf _ _ _)

theorem writeSuppressed (serial : Nat) (c : Fin 24) (s : State) : s.Retains (s.writeSuppressed serial c) :=
  writeRecord serial _ s fun r => by split <;> rfl

/-! ### Final points -/

theorem unmark (k : LotKey) (s : State) : s.Retains (s.writeLot k fun l => { l with openBatch := none }) :=
  writeLot fun x hx hk => ⟨hk, x, hx, rfl⟩

theorem settleGood (r : Record) (s : State) : s.Retains (s.settleGood r) := by
  unfold State.settleGood
  split
  · exact writeRecord _ _ s
  · next l hl =>
    refine (writeRecord r.serial (fun x => { x with final := some .good, slot := some (goodFinal l (s.lastUnsettled r)).1 })
      s).trans (writeLot fun x _ _ => ⟨show l.key = r.lot from State.findLot_key hl, l, State.findLot_mem hl, rfl⟩)

theorem settleDiverted (r : Record) (s : State) : s.Retains (s.settleDiverted r) := by
  have hwritten := writeRecord r.serial (fun x => { x with final := some .diverted, unmarkedEnd := s.unmarks r }) s
  unfold State.settleDiverted
  dsimp only
  split
  · exact hwritten.trans (unmark _ _)
  · exact hwritten

theorem settleUndiverted (r : Record) (s : State) : s.Retains (s.settleUndiverted r) := by
  have hwritten := (writeRecord r.serial (fun x => { x with
    final := some .undiverted, defects := x.defects.add .rest, unmarkedEnd := s.unmarks r }) s).trans
      (bumpIf (!r.defects.has .rest) (ctrReason .rest) _)
  unfold State.settleUndiverted
  dsimp only
  refine .trans ?_ (raise _ _ _ _)
  split
  · exact hwritten.trans (unmark _ _)
  · exact hwritten

/-! ### CAM's steps -/

theorem countEdge (c : Fin 24) (position : Int) (s : State) : s.Retains (s.countEdge c position) := by
  rw [State.countEdge_eq]
  exact of_eq rfl rfl rfl

theorem issueOn (c : Fin 24) (w : Window) (on off : Nat) (s : State) : s.Retains (s.issueOn c w on off) :=
  (countEdge c _ s).trans ((placeOutbound _ _).trans (setCam _ _ _))

theorem issueOff (c : Fin 24) (a : ActiveOff) (s : State) : s.Retains (s.issueOff c a) :=
  (bumpIf _ _ s).trans ((countEdge c _ _).trans ((placeOutbound _ _).trans (setCam _ _ _)))

theorem fire (c : Fin 24) (w : Window) (on off : Nat) (s : State) : s.Retains (s.fire c w on off) := by
  unfold State.fire
  split
  · exact issueOn c w on off s
  · split
    · exact setCam c _ s
    · exact (issueOff c _ s).trans (issueOn c w on off _)

theorem noFire (c : Fin 24) (s : State) : s.Retains (s.noFire c) := by
  have hdropped : s.Retains (s.dropHead c) := setCam c _ s
  unfold State.noFire
  dsimp only
  split
  · split
    · exact hdropped.trans (issueOff c _ _)
    · exact hdropped
  · exact hdropped

theorem gateDue (c : Fin 24) (w : Window) (on off : Nat) (s : State) : s.Retains (s.gateDue c w on off) := by
  unfold State.gateDue
  split
  · exact noFire c s
  · next r _ =>
    split
    · exact eitherOrder (noFire c) (settleGood r) s
    · split
      · exact eitherOrder (fire c w on off) (settleDiverted r) s
      · split
        · exact eitherOrder (fun t => (setCam c _ t).trans (issueOff c _ _)) (settleUndiverted r) s
        · exact eitherOrder (fire c w on off) (settleDiverted r) s

theorem takeOn (c : Fin 24) (w : Window) (on off : Nat) (s : State) : s.Retains (s.takeOn c w on off) := by
  unfold State.takeOn
  split
  case h_1 => exact gateDue c w on off s
  case h_2 =>
    split
    · exact fire c w on off s
    · exact noFire c s
  case h_3 | h_4 => exact fire c w on off s
  case h_5 | h_6 | h_7 =>
    split
    · exact (writeSuppressed _ c s).trans (noFire c _)
    · exact fire c w on off s

theorem offStep {c : Fin 24} {s t : State} (h : s.offStep c = some t) : s.Retains t := by
  cases ha : (s.camChannel c).activeOff with
  | none =>
    rw [State.offStep_none ha] at h
    contradiction
  | some a =>
    unfold State.offStep at h
    rw [ha] at h
    obtain ⟨-, htaken⟩ := Option.ite_none_right_eq_some.1 h
    rw [← Option.some.inj htaken]
    rcases s.takeOff_cases c a with hheld | hissued
    · rw [hheld]
      exact setCam c _ s
    · rw [hissued]
      exact issueOff c a s

theorem camStep {c : Fin 24} {s t : State} (h : s.camStep c = some t) : s.Retains t := by
  by_cases hdue : ∃ w on off, (s.camChannel c).schedule.head? = some w ∧ w.angles = some (on, off) ∧
      s.due (s.onFiring c w.target on) = true
  · obtain ⟨w, on, off, hhead, hangles, hdue⟩ := hdue
    rw [State.camStep_on hhead hangles hdue] at h
    exact Option.some.inj h ▸ takeOn c w on off s
  · rw [State.camStep_off fun w hw on off hangles hon => hdue ⟨w, on, off, hw, hangles, hon⟩] at h
    exact offStep h

theorem testChannel (s : State) (c : Fin 24) : s.Retains (s.testChannel c) := by
  have hloop : ∀ (n : Nat) (s : State), s.Retains (camLoop c n s) := by
    intro n
    induction n with
    | zero => exact refl
    | succ n ih =>
      intro s
      unfold camLoop
      split
      · next h => exact (camStep h).trans (ih _)
      · exact refl s
  exact hloop _ s

/-! ### The blocks at a creation -/

theorem regCreate (r : Record) (s : State) : s.Retains (s.regCreate r) := by
  unfold State.regCreate
  dsimp only
  split
  · exact ((writeRecord _ _ s).trans (addDefect _ _ _)).trans (of_eq rfl rfl rfl)
  · exact of_eq rfl rfl rfl

theorem camCreate (r : Record) (s : State) : s.Retains (s.camCreate r) := by
  have hreceived : s.Retains (s.setCams (s.receive? r)) := by
    rw [State.setCams]
    generalize channelIds.foldl _ s.cam = cam
    exact of_eq rfl rfl rfl
  rw [State.camCreate_eq]
  exact hreceived.trans (foldl testChannel _ _)

theorem chkCreate (r : Record) (s : State) : s.Retains (s.chkCreate r) := by
  rw [State.chkCreate_eq]
  generalize inputIds.foldl _ s.chk = chk
  exact of_eq rfl rfl rfl

end State.Retains

end Sys2Proof.Machine

/-! ## Settled: the cut decision (O51) -/

namespace Sys2Proof.Machine

/-! ### The table after a lot's end -/

theorem filter_bne (k : LotKey) (table : List Lot) :
    (table.filter fun x => x.key != k) = table.filter fun x => x.key ≠ k :=
  List.filter_congr fun x _ => by by_cases hx : x.key = k <;> simp [hx]

theorem State.completeBatch_table {k : LotKey} {l : Lot} {s : State} (unmarkedEnd : Bool) (h : s.findLot k = some l) :
    (s.completeBatch k unmarkedEnd).lot.table = (s.writeLot k Lot.batchDone).lot.table := by
  by_cases hroom : s.lot.boxes.length < 2
  · rw [State.completeBatch_room unmarkedEnd h hroom, State.notice_lot]
  · rw [State.completeBatch_full unmarkedEnd h (Nat.not_lt.1 hroom), State.notice_lot, State.raise_lot]

/-- What a lot leaves in the table: its place, and the make-up lot where one is made (R139, R140). -/
def EndsAs (l : Lot) (skip : Nat) (table : List Lot) (ended : State × Bool) : Prop :=
  let rest := table.filter fun x => x.key ≠ l.key
  (ended.2 = false ∧ ended.1.lot.table = rest) ∨
    (ended.2 = true ∧ ended.1.lot.table =
        placeMakeUp skip (Lot.create (makeUpKey l.key) l.format (l.target - l.stacked) l.batchSize true) rest ∧
      l.makeUp = true ∧ l.stacked < l.target ∧ ∀ x ∈ rest, x.key ≠ makeUpKey l.key)

theorem State.dissolveLot_endsAs (l : Lot) (skip : Nat) (s : State) : EndsAs l skip s.lot.table (s.dissolveLot l skip) := by
  have htable := s.dissolveLot_table l skip
  rw [filter_bne] at htable
  by_cases hmade : s.makeUpOutcome l = .made
  · obtain ⟨hshort, hyes, -, hfree⟩ := State.makeUpOutcome_made hmade
    rw [if_pos hmade] at htable
    refine .inr ⟨beq_iff_eq.2 hmade, htable, hyes, by omega, fun x hx => ?_⟩
    obtain ⟨hx, hne⟩ := List.mem_filter.1 hx
    exact hfree x hx (of_decide_eq_true hne)
  · rw [if_neg hmade] at htable
    exact .inl ⟨beq_false_of_ne hmade, htable⟩

theorem State.endLot_endsAs {k : LotKey} {l : Lot} {s : State} (h : s.findLot k = some l) (skip : Nat) :
    EndsAs l skip s.lot.table (s.endLot k skip) := by
  obtain rfl := State.findLot_key h
  by_cases hlast : 0 < l.delivered ∨ l.contaminated = true
  · have hended := (s.completeBatch l.key true).dissolveLot_endsAs l.batchDone skip
    have hrest := filter_writeLot l.key Lot.batchDone (fun _ => rfl) s.lot.table
    rw [State.endLot_batch h skip hlast]
    rw [EndsAs, State.completeBatch_table true h] at hended
    rw [EndsAs, ← hrest]
    exact hended
  · rw [State.endLot_clean h skip hlast]
    exact s.dissolveLot_endsAs l skip

/-- No lot but a QUEUED one comes into the table. -/
theorem EndsAs.mem {l : Lot} {skip : Nat} {table : List Lot} {ended : State × Bool} (h : EndsAs l skip table ended) {x : Lot}
    (hx : x ∈ ended.1.lot.table) : (x ∈ table ∧ x.key ≠ l.key) ∨ x.state = .queued := by
  have hrest {y : Lot} (hy : y ∈ table.filter fun x => x.key ≠ l.key) : y ∈ table ∧ y.key ≠ l.key :=
    (List.mem_filter.1 hy).imp_right of_decide_eq_true
  rcases h with ⟨-, htable⟩ | ⟨-, htable, -⟩
  · rw [htable] at hx
    exact .inl (hrest hx)
  · rw [htable] at hx
    obtain ⟨A, B, hsplit, hplaced, -⟩ := placeMakeUp_split skip
      (Lot.create (makeUpKey l.key) l.format (l.target - l.stacked) l.batchSize true) (table.filter fun x => x.key ≠ l.key)
    rw [hplaced] at hx
    rcases List.mem_append.1 hx with hA | hB
    · exact .inl (hrest (hsplit ▸ List.mem_append_left B hA))
    · rcases List.mem_cons.1 hB with rfl | hB
      · exact .inr rfl
      · exact .inl (hrest (hsplit ▸ List.mem_append_right A hB))

/-! ### The point of a cut decision (R135) -/

theorem cutPitch_iff {previous new : Nat} (hmove : previous < new) (hnear : new ≤ previous + 1024)
    (hlast : new < 4294967295 * 4096 + 1792) (p : Nat) :
    cutPitch previous new = some p ↔ 1 ≤ p ∧ previous < (p - 1) * 4096 + 1792 ∧ (p - 1) * 4096 + 1792 ≤ new := by
  unfold cutPitch
  simp only [Config.cutAngle, Config.pitchCounts]
  by_cases hbelow : new < 1792
  · rw [if_pos hbelow]
    simp only [reduceCtorEq, false_iff]
    omega
  · have hnext : nextPitch ((new - 1792) / 4096) = (new - 1792) / 4096 + 1 := if_pos (by omega)
    rw [if_neg hbelow, Option.ite_none_right_eq_some, hnext, Option.some.injEq]
    omega

/-! ### A cut (R138) -/

/-- A lot counted for a cut, and one whose count has not reached its last value. -/
def Lot.counted (l : Lot) : Lot := { l with cut := countUp l.cut, inFlight := l.inFlight + 1 }

def Lot.cutOnce (l : Lot) : Lot := { l with cut := l.cut + 1, inFlight := l.inFlight + 1 }

@[simp] theorem Lot.counted_key (l : Lot) : l.counted.key = l.key := rfl

@[simp] theorem Lot.counted_state (l : Lot) : l.counted.state = l.state := rfl

theorem Lot.counted_eq {l : Lot} (h : l.cut < 4294967295) : l.counted = l.cutOnce := by
  rw [Lot.counted, countUp, if_pos h, Lot.cutOnce]

/-- The serial of the next record. -/
def State.nextSerial (s : State) : Nat := (s.trq.serial + 1) % 4294967296

/-- The state before REG, CAM and CHK learn of a cut. -/
def State.appended (s : State) (table : List Lot) (p : Nat) (l : Lot) : State :=
  { s with
    lot := { s.lot with table := table }
    trq := ⟨s.trq.queue ++ [Record.born s.nextSerial p l.key l.format], s.nextSerial⟩ }

theorem State.cutFor_eq (l : Lot) (p : Nat) (s : State) :
    let r := Record.born s.nextSerial p l.key l.format
    s.cutFor l p = (((s.appended (s.writeLot l.key Lot.counted).lot.table p l).regCreate r).camCreate r).chkCreate r := rfl

theorem State.cutFor_middle {front back : List Lot} {l m : Lot} {s : State} (p : Nat)
    (htable : s.lot.table = front ++ m :: back) (hkey : m.key = l.key) (hothers : ∀ x ∈ front ++ back, x.key ≠ l.key)
    (hcut : m.cut < 4294967295) :
    let r := Record.born s.nextSerial p l.key l.format
    s.cutFor l p = (((s.appended (front ++ m.cutOnce :: back) p l).regCreate r).camCreate r).chkCreate r := by
  intro r
  have hwritten := State.writeLot_middle Lot.counted htable fun x hx => hkey ▸ hothers x hx
  rw [hkey, Lot.counted_eq hcut] at hwritten
  rw [State.cutFor_eq, hwritten]

/-- What a cut for a lot does without a word on the other lots' keys. -/
theorem State.cutFor_retains (l : Lot) (p : Nat) (s : State) :
    (s.appended (s.writeLot l.key Lot.counted).lot.table p l).Retains (s.cutFor l p) := by
  rw [State.cutFor_eq]
  exact ((State.Retains.regCreate _ _).trans (State.Retains.camCreate _ _)).trans (State.Retains.chkCreate _ _)

/-- The record a cut leaves at the tail. -/
theorem State.Retains.tail {s t : State} {table : List Lot} {p : Nat} {l : Lot} (h : (s.appended table p l).Retains t) :
    ∃ rest r, t.trq.queue = rest ++ [r] ∧ rest.map Record.serial = s.trq.queue.map Record.serial ∧
      r.serial = t.trq.serial ∧ r.birth = p ∧ r.lot = l.key ∧ r.format = l.format := by
  have hrecords := h.records
  rw [show (s.appended table p l).trq.queue =
    s.trq.queue ++ [Record.born s.nextSerial p l.key l.format] from rfl, List.map_append] at hrecords
  obtain ⟨rest, last, hqueue, hrest, hlast⟩ := List.map_eq_append_iff.1 hrecords
  obtain ⟨r, hr, hidentity⟩ := List.map_eq_singleton_iff.1 hlast
  have hserials : rest.map Record.serial = s.trq.queue.map Record.serial := by
    have hfirst := congrArg (List.map Prod.fst) hrest
    rw [List.map_map, List.map_map] at hfirst
    exact hfirst
  simp only [Record.identity, Record.born, Prod.mk.injEq] at hidentity
  obtain ⟨hserial, hbirth, hlot, hformat⟩ := hidentity
  exact ⟨rest, r, hr ▸ hqueue, hserials, hserial.trans h.serial.symm, hbirth, hlot, hformat⟩

/-! ### Which lot is cut for (R135) -/

theorem State.cutDecision_slow {p : Nat} {s : State} (h : s.pos.v < s.settings.cutMinimum) : s.cutDecision p = s := if_pos h

theorem State.cutDecision_none {p : Nat} {s : State} (hfast : ¬s.pos.v < s.settings.cutMinimum)
    (hnone : ∀ x ∈ s.lot.table, x.state ≠ .cutting) : s.cutDecision p = s.admitNext p := by
  have hcutting : s.cuttingLot = none := List.find?_eq_none.2 fun x hx => by simpa using hnone x hx
  rw [State.cutDecision, if_neg hfast, hcutting]

theorem State.cutDecision_cutting {p : Nat} {l : Lot} {s : State} (hfast : ¬s.pos.v < s.settings.cutMinimum)
    (hcutting : s.cuttingLot = some l) : s.cutDecision p =
      if s.committed l < l.target then s.cutFor l p else (s.closeLot l.key).admitNext p := by
  rw [State.cutDecision, if_neg hfast, hcutting]

theorem State.cuttingLot_middle {front back : List Lot} {l : Lot} {s : State} (htable : s.lot.table = front ++ l :: back)
    (hothers : ∀ x ∈ front ++ back, x.state ≠ .cutting) (hstate : l.state = .cutting) : s.cuttingLot = some l := by
  have hfront : front.find? (fun x => x.state == .cutting) = none :=
    List.find?_eq_none.2 fun x hx => by simpa using hothers x (List.mem_append_left _ hx)
  rw [State.cuttingLot, htable, List.find?_append, hfront, List.find?_cons_of_pos (by simp [hstate])]
  rfl

/-- At most one lot is CUTTING. -/
theorem State.LotsOrdered.cuttingLot {l : Lot} {s : State} (h : s.LotsOrdered) (hl : l ∈ s.lot.table)
    (hstate : l.state = .cutting) : s.cuttingLot = some l := by
  obtain ⟨-, hone, -⟩ := h
  rw [List.countP_eq_length_filter] at hone
  have hmem : l ∈ s.lot.table.filter fun x => x.state == .cutting := List.mem_filter.2 ⟨hl, by simp [hstate]⟩
  have hhead : s.cuttingLot = (s.lot.table.filter fun x => x.state == .cutting).head? := List.head?_filter.symm
  rw [hhead]
  match hfilter : s.lot.table.filter fun x => x.state == .cutting with
  | [] =>
    rw [hfilter] at hmem
    contradiction
  | [x] =>
    rw [hfilter, List.mem_singleton] at hmem
    rw [hfilter, hmem]
    rfl
  | x :: y :: rest =>
    rw [hfilter] at hone
    simp at hone

theorem State.admitNext_head {p : Nat} {before after : List Lot} {l : Lot} {s : State} (htable : s.lot.table = before ++ l :: after)
    (hbefore : ∀ x ∈ before, x.state ≠ .queued) (hstate : l.state = .queued) : s.admitNext p = s.admitLot l p := by
  have hnone : before.find? (fun x => x.state == .queued) = none :=
    List.find?_eq_none.2 fun x hx => by simpa using hbefore x hx
  have hhead : s.headQueued = some l := by
    rw [State.headQueued, htable, List.find?_append, hnone, List.find?_cons_of_pos (by simp [hstate])]
    rfl
  rw [State.admitNext, hhead]

theorem State.admitNext_exhausted {p : Nat} {s : State} (h : ∀ x ∈ s.lot.table, x.state ≠ .queued) :
    s.admitNext p = s.defer (.stop .lotsExhausted) := by
  have hhead : s.headQueued = none := List.find?_eq_none.2 fun x hx => by simpa using h x hx
  rw [State.admitNext, hhead]

/-- A CUTTING lot at its target closes, and the decision goes on without it (R136). -/
theorem State.closeLot_decides {p : Nat} {front back : List Lot} {l : Lot} {s : State}
    (hfast : ¬s.pos.v < s.settings.cutMinimum) (htable : s.lot.table = front ++ l :: back)
    (hothers : ∀ x ∈ front ++ back, x.key ≠ l.key ∧ x.state ≠ .cutting) :
    let closed := { s with lot := { s.lot with table := front ++ { l with state := .closed } :: back } }
    (l.inFlight ≠ 0 → (s.closeLot l.key).admitNext p = closed.cutDecision p) ∧
    (l.inFlight = 0 → (s.closeLot l.key).admitNext p = (closed.endLot l.key 0).1.cutDecision p) := by
  intro closed
  have hkeys : ∀ x ∈ front ++ back, x.key ≠ l.key := fun x hx => (hothers x hx).1
  have hclosed : s.closeLot l.key = closed.endIfDone l.key := by
    rw [State.closeLot, State.writeLot_middle (fun x => { x with state := .closed }) htable hkeys]
  have hfound : closed.findLot l.key = some { l with state := .closed } :=
    State.findLot_middle (l := { l with state := .closed }) rfl hkeys
  have hnocut : ∀ x ∈ closed.lot.table, x.state ≠ .cutting := by
    intro x hx
    rcases List.mem_append.1 hx with hfront | hback
    · exact (hothers x (List.mem_append_left _ hfront)).2
    · rcases List.mem_cons.1 hback with rfl | hback
      · exact LotState.noConfusion
      · exact (hothers x (List.mem_append_right _ hback)).2
  rw [hclosed, State.endIfDone_found hfound]
  refine ⟨fun hflight => ?_, fun hflight => ?_⟩
  · rw [if_neg fun h => hflight h.2]
    exact (State.cutDecision_none (s := closed) hfast hnocut).symm
  · rw [if_pos ⟨rfl, hflight⟩]
    refine (State.cutDecision_none ?_ fun x hx => ?_).symm
    · rw [(State.Tells.endLot l.key 0 closed).frame]
      exact hfast
    · rcases (State.endLot_endsAs hfound 0).mem hx with ⟨hx, -⟩ | hqueued
      · exact hnocut x hx
      · exact fun hcut => LotState.noConfusion (hqueued.symm.trans hcut)

/-! ### Admission (R137) -/

theorem State.askFormat_notValid {f : Fin 16} {s : State} (h : (s.format f).state ≠ .valid) :
    s.askFormat f = (.notValid, s) := if_pos h

theorem State.askFormat_mismatch {f : Fin 16} {s : State} (h : (s.format f).state = .valid)
    (hsum : (s.format f).contentSum (f.val + 1) ≠ (s.format f).storedSum) :
    s.askFormat f = (.mismatch, s.setFormat f fun x => { x with state := .invalid }) :=
  (if_neg (not_not.2 h)).trans (if_neg hsum)

theorem State.askFormat_valid {f : Fin 16} {s : State} (h : (s.format f).state = .valid)
    (hsum : (s.format f).contentSum (f.val + 1) = (s.format f).storedSum) : s.askFormat f = (.valid, s) :=
  (if_neg (not_not.2 h)).trans (if_pos hsum)

/-- A station that is not driven by CAM (R137). -/
def State.misses (s : State) (f : Format) (c : Fin 24) : Prop :=
  (f.required.getLsbD c.val = true ∨ (s.channel c).function = .knife ∨ (s.channel c).function = .gate ∨
    (s.channel c).function = .finger) ∧ (s.channel c).source ≠ .cam

/-- The first station, ascending, that is not driven by CAM. -/
def State.missed? (s : State) (f : Format) : Option (Fin 24) := (s.stations f).find? fun c => (s.channel c).source != .cam

theorem State.missed?_eq (s : State) (f : Format) :
    ∃ test : Fin 24 → Bool, s.missed? f = (List.finRange 24).find? test ∧ ∀ c, test c = true ↔ s.misses f c := by
  refine ⟨_, List.find?_filter, fun c => ?_⟩
  simp only [State.misses, Bool.or_eq_true, beq_iff_eq, bne_iff_ne, or_assoc, decide_eq_true_eq]

theorem State.missed?_none {s : State} {f : Format} (h : ∀ c, ¬s.misses f c) : s.missed? f = none := by
  obtain ⟨test, hfind, htest⟩ := s.missed?_eq f
  rw [hfind]
  exact List.find?_eq_none.2 fun c _ hc => h c ((htest c).1 hc)

theorem State.missed?_first {s : State} {f : Format} {c : Fin 24} (h : s.misses f c) (hbelow : ∀ d < c, ¬s.misses f d) :
    s.missed? f = some c := by
  obtain ⟨test, hfind, htest⟩ := s.missed?_eq f
  rw [hfind, List.find?_eq_some_iff_getElem]
  refine ⟨(htest c).2 h, c.val, by simp, by simp, fun j hj => ?_⟩
  have hnot := hbelow ⟨j, by omega⟩ hj
  rw [← htest] at hnot
  simpa using hnot

theorem State.admitLot_notValid {l : Lot} {p : Nat} {s : State} (h : (s.format l.format).state ≠ .valid) :
    s.admitLot l p = s.raise .formatInvalid .stop (.key l.key) := by
  rw [State.admitLot, State.askFormat_notValid h]

theorem State.admitLot_mismatch {l : Lot} {p : Nat} {s : State} (h : (s.format l.format).state = .valid)
    (hsum : (s.format l.format).contentSum (l.format.val + 1) ≠ (s.format l.format).storedSum) :
    s.admitLot l p =
      (s.setFormat l.format fun x => { x with state := .invalid }).raise .formatCheck .stop (.key l.key) := by
  rw [State.admitLot, State.askFormat_mismatch h hsum]

/-- A lot whose format is sound: the stations, the running class, the cut. -/
theorem State.admitLot_sound_format {l : Lot} {p : Nat} {s : State} (h : (s.format l.format).state = .valid)
    (hsum : (s.format l.format).contentSum (l.format.val + 1) = (s.format l.format).storedSum) :
    (∀ c, s.missed? (s.format l.format) = some c → s.admitLot l p = s.raise .stationMissing .stop (.number c.val)) ∧
    (s.missed? (s.format l.format) = none →
      (s.lot.runClass ≠ some (s.format l.format).sizeClass → s.admitLot l p = s.defer (.stop .changeover)) ∧
      (s.lot.runClass = some (s.format l.format).sizeClass →
        s.admitLot l p = (s.writeLot l.key fun x => { x with state := .cutting }).cutFor l p)) := by
  rw [State.admitLot, State.askFormat_valid h hsum]
  unfold State.missed?
  dsimp only
  refine ⟨fun c hc => by rw [hc], fun hnone => ?_⟩
  rw [hnone]
  exact ⟨fun hclass => if_pos hclass, fun hclass => if_neg (not_not.2 hclass)⟩

/-- An admitted lot that is cut for, whatever other lots hold its key. -/
theorem State.admitted_retains {l : Lot} {p : Nat} {s t : State} (hl : l ∈ s.lot.table)
    (ht : t = (s.writeLot l.key fun x => { x with state := .cutting }).cutFor l p) :
    t.trq.serial = s.nextSerial ∧ t.trq.queue.length = s.trq.queue.length + 1 ∧
      ∃ l' ∈ t.lot.table, l'.key = l.key ∧ l'.state = .cutting := by
  have hretains := State.cutFor_retains l p (s.writeLot l.key fun x => { x with state := .cutting })
  rw [← ht] at hretains
  obtain ⟨rest, r, hqueue, hserials, -⟩ := hretains.tail
  have hlength : rest.length = s.trq.queue.length := by simpa using congrArg List.length hserials
  refine ⟨hretains.serial, by rw [hqueue, List.length_append, hlength]; rfl, ?_⟩
  have hkeys : l.key ∈ t.lot.table.map Lot.key := by
    rw [hretains.keys]
    refine List.mem_map.2 ⟨_, List.mem_map.2 ⟨_, List.mem_map.2 ⟨l, hl, rfl⟩, rfl⟩, ?_⟩
    simp
  obtain ⟨l', hl', hkey⟩ := List.mem_map.1 hkeys
  refine ⟨l', hl', hkey, ?_⟩
  obtain ⟨x, hx, hholding⟩ := hretains.lots l' hl'
  obtain ⟨y, hy, rfl⟩ := List.mem_map.1 hx
  obtain ⟨z, -, rfl⟩ := List.mem_map.1 hy
  simp only [Lot.holding, Prod.mk.injEq] at hholding
  obtain ⟨hxkey, hxstate, -⟩ := hholding
  rw [← hxstate]
  rw [hkey] at hxkey
  by_cases hz : z.key = l.key
  · simp [hz]
  · simp [hz] at hxkey

/-- The CUTTING lot cut for in a table of distinct keys. -/
theorem State.cutFor_counts {l : Lot} {p : Nat} {s : State} (hkeys : (s.lot.table.map Lot.key).Nodup) (hl : l ∈ s.lot.table)
    (hstate : l.state = .cutting) :
    let t := s.cutFor l p
    t.lot.table.map Lot.key = s.lot.table.map Lot.key ∧ ∃ l' ∈ t.lot.table, l'.key = l.key ∧ l'.state = .cutting ∧
      (l.cut < 4294967295 → l'.cut = l.cut + 1) ∧ l'.inFlight = l.inFlight + 1 := by
  have hretains := State.cutFor_retains l p s
  intro t
  change State.Retains _ t at hretains
  generalize t = t at hretains ⊢
  have hwritten := State.writeLot_keys l.key Lot.counted s fun _ => rfl
  have htable : t.lot.table.map Lot.key = s.lot.table.map Lot.key := hretains.keys.trans hwritten
  have hmem : l.key ∈ t.lot.table.map Lot.key := by
    rw [htable]
    exact List.mem_map_of_mem hl
  obtain ⟨l', hl', hkey⟩ := List.mem_map.1 hmem
  refine ⟨htable, l', hl', hkey, ?_⟩
  obtain ⟨x, hx, hholding⟩ := hretains.lots l' hl'
  obtain ⟨y, hy, rfl⟩ := List.mem_map.1 hx
  have hykey : y.key = l.key := by
    have h := congrArg Prod.fst hholding
    rw [← hkey, ← show _ = l'.key from h]
    split <;> rfl
  obtain rfl : y = l := List.inj_on_of_nodup_map hkeys hy hl hykey
  rw [if_pos rfl] at hholding
  simp only [Lot.holding, Prod.mk.injEq] at hholding
  obtain ⟨-, hs, hc, hf⟩ := hholding
  have hup (hcut : y.cut < 4294967295) : y.counted.cut = y.cut + 1 := by rw [Lot.counted_eq hcut, Lot.cutOnce]
  exact ⟨hs ▸ hstate, fun hcut => hc ▸ hup hcut, hf.symm⟩

/-- Settles O51: the point by arithmetic, then the lot the decision finds: below its target, at it, or the head QUEUED one
with the outcome of its admission. -/
theorem cutDecisionByItsSteps : Obligations.CutDecisionByItsSteps := by
  unfold Obligations.CutDecisionByItsSteps
  refine ⟨fun previous new hmove hnear hlast p => cutPitch_iff hmove hnear hlast p, ?_⟩
  intro p s t serial record cut slow
  refine ⟨State.cutDecision_slow, ?_, ?_, ?_, ?_, ?_⟩
  · intro l hfast hordered hl hstate hbelow
    have ht : t = s.cutFor l p :=
      (State.cutDecision_cutting hfast (hordered.cuttingLot hl hstate)).trans (if_pos hbelow)
    have hretains := State.cutFor_retains l p s
    rw [ht]
    obtain ⟨hkeys, hlot⟩ := State.cutFor_counts (p := p) hordered.2.2 hl hstate
    exact ⟨hretains.serial, hretains.line, hretains.tail, hkeys, hlot⟩
  · intro front l back hfast htable hothers hstate hbelow hcount
    have ht : t = s.cutFor l p := (State.cutDecision_cutting hfast
      (State.cuttingLot_middle htable (fun x hx => (hothers x hx).2) hstate)).trans (if_pos hbelow)
    have hcut := State.cutFor_middle p htable rfl (fun x hx => (hothers x hx).1) hcount
    have hlot : l.cutOnce = { l with state := .cutting, cut := l.cut + 1, inFlight := l.inFlight + 1 } := by
      rw [Lot.cutOnce, ← hstate]
    rw [hlot] at hcut
    exact ht.trans hcut
  · intro front l back hfast htable hothers hstate htarget closed
    have ht : t = (s.closeLot l.key).admitNext p := (State.cutDecision_cutting hfast
      (State.cuttingLot_middle htable (fun x hx => (hothers x hx).2) hstate)).trans (if_neg (Nat.not_lt.2 htarget))
    rw [ht]
    exact State.closeLot_decides hfast htable hothers
  · intro hfast hclosed
    refine (State.cutDecision_none hfast fun x hx hcut => ?_).trans (State.admitNext_exhausted fun x hx hqueued => ?_)
    · exact LotState.noConfusion ((hclosed x hx).symm.trans hcut)
    · exact LotState.noConfusion ((hclosed x hx).symm.trans hqueued)
  · intro before l after hfast htable hbefore hstate hafter f needed missing sound
    have ht : t = s.admitLot l p := by
      refine (State.cutDecision_none hfast fun x hx => ?_).trans (State.admitNext_head htable ?_ hstate)
      · rw [htable] at hx
        rcases List.mem_append.1 hx with hx | hx
        · exact fun hcut => LotState.noConfusion ((hbefore x hx).symm.trans hcut)
        · rcases List.mem_cons.1 hx with rfl | hx
          · exact fun hcut => LotState.noConfusion (hstate.symm.trans hcut)
          · exact hafter x hx
      · exact fun x hx hqueued => LotState.noConfusion ((hbefore x hx).symm.trans hqueued)
    rw [ht]
    refine ⟨State.admitLot_notValid, State.admitLot_mismatch, fun c hsound hmissing hbelow => ?_,
      fun hsound hnone hclass => ?_, fun hsound hnone hclass => ?_⟩
    · exact (State.admitLot_sound_format hsound.1 hsound.2).1 c (State.missed?_first hmissing hbelow)
    · exact ((State.admitLot_sound_format hsound.1 hsound.2).2 (State.missed?_none hnone)).1 hclass
    · have hadmitted := ((State.admitLot_sound_format (p := p) hsound.1 hsound.2).2 (State.missed?_none hnone)).2 hclass
      have hl : l ∈ s.lot.table := by
        rw [htable]
        exact List.mem_append_right _ List.mem_cons_self
      obtain ⟨hserial, hlength, hlot⟩ := State.admitted_retains hl hadmitted
      refine ⟨hserial, hlength, hlot, fun hothers hcount => hadmitted.trans ?_⟩
      rw [State.writeLot_middle (fun x => { x with state := .cutting }) htable hothers]
      exact State.cutFor_middle (l := l) (m := { l with state := .cutting }) p rfl rfl hothers hcount

end Sys2Proof.Machine

/-! ## Settled: LINE_CLEAR (O42) -/

namespace Sys2Proof.Machine

/-! ### The purge of the records (R67) -/

/-- A lot after the records of a queue have been purged. -/
def Lot.purgedBy (q : List Record) (l : Lot) : Lot :=
  q.foldl (fun x r => if x.key = r.lot then x.purge r.withdrawn else x) l

theorem Lot.purgedBy_cons (r : Record) (q : List Record) (l : Lot) :
    l.purgedBy (r :: q) = (if l.key = r.lot then l.purge r.withdrawn else l).purgedBy q := rfl

/-- What the purge of the first records of a queue leaves. -/
structure State.Purged (q : List Record) (s t : State) : Prop where
  frame : t = { s with lot := t.lot, reg := t.reg, chk := t.chk, trq := t.trq }
  lot : t.lot = { s.lot with table := s.lot.table.map (Lot.purgedBy q) }
  trq : t.trq = ⟨s.trq.queue.drop q.length, s.trq.serial⟩
  reg : t.reg = { s.reg with marks := t.reg.marks, openCandidate := t.reg.openCandidate }
  marks : ∀ m, m ∈ t.reg.marks ↔ m ∈ s.reg.marks ∧ ∀ r ∈ q, r.serial ≠ m.serial
  checks : ∀ i, t.chkInput i =
    { s.chkInput i with pending := (s.chkInput i).pending.filter fun p => q.all fun r => r.serial != p.serial }

theorem State.chkPurge_chkInput (serial : Nat) (s : State) (i : Fin 16) : (s.chkPurge serial).chkInput i =
    { s.chkInput i with pending := (s.chkInput i).pending.filter fun p => p.serial != serial } := by
  have hget (v : Vector ChkInput 16) := foldl_updateAt_get
    (fun _ (x : ChkInput) => { x with pending := x.pending.filter fun p => p.serial != serial })
    inputIds (List.nodup_finRange 16) v i
  refine (hget s.chk).trans ?_
  rw [if_pos (inputIds_mem i)]
  rfl

theorem State.purgeRecord_eq (s : State) (r : Record) : s.purgeRecord r = { s with
    lot := { s.lot with table := s.lot.table.map fun l => if l.key = r.lot then l.purge r.withdrawn else l }
    reg := s.reg.withoutMarks fun m => m.serial == r.serial
    chk := (s.chkPurge r.serial).chk
    trq := ⟨s.trq.queue.tail, s.trq.serial⟩ } := by
  unfold State.purgeRecord State.chkPurge
  generalize inputIds = inputs
  rfl

/-- The first record of a queue purged, then the others. -/
theorem State.Purged.cons {r : Record} {q : List Record} {s t : State} (h : State.Purged q (s.purgeRecord r) t) :
    State.Purged (r :: q) s t := by
  have hchecks : ∀ i, (s.purgeRecord r).chkInput i =
      { s.chkInput i with pending := (s.chkInput i).pending.filter fun p => p.serial != r.serial } := fun i => by
    rw [← State.chkPurge_chkInput, State.purgeRecord_eq]
    rfl
  have hfirst := State.purgeRecord_eq s r
  generalize s.purgeRecord r = u at h hchecks hfirst
  refine ⟨?_, ?_, ?_, ?_, fun m => ?_, fun i => ?_⟩
  · rw [h.frame, hfirst]
  · rw [h.lot, hfirst, List.map_map]
    rfl
  · rw [h.trq, hfirst, List.drop_tail]
    rfl
  · rw [h.reg, hfirst]
    rfl
  · have hmarks : m ∈ u.reg.marks ↔ m ∈ s.reg.marks ∧ r.serial ≠ m.serial := by
      rw [hfirst]
      show m ∈ s.reg.marks.filter (fun m => !(m.serial == r.serial)) ↔ _
      rw [List.mem_filter, Bool.not_eq_true', beq_eq_false_iff_ne, ne_comm]
    rw [h.marks, hmarks, List.forall_mem_cons, and_assoc]
  · rw [h.checks, hchecks]
    dsimp only
    rw [List.filter_filter]
    congr 1
    refine List.filter_congr fun p _ => ?_
    rw [List.all_cons, bne_comm (a := p.serial), Bool.and_comm]

theorem State.foldl_purgeRecord (q : List Record) (s : State) : State.Purged q s (q.foldl State.purgeRecord s) := by
  induction q generalizing s with
  | nil =>
    refine ⟨rfl, ?_, rfl, rfl, fun m => by simp, fun i => ?_⟩
    · show s.lot = { s.lot with table := s.lot.table.map fun l => l }
      rw [List.map_id']
    · show s.chkInput i = { s.chkInput i with pending := (s.chkInput i).pending.filter fun _ => true }
      rw [List.filter_true]
  | cons r rest ih => exact (ih _).cons

/-- A lot after LINE_CLEAR's purge: its records out, its batch state at its delivery point (R126). -/
def Lot.cleared (q : List Record) (l : Lot) : Lot := (l.purgedBy q).toDeliveryPoint

theorem State.purge_table (s : State) : s.purge.lot.table = s.lot.table.map (Lot.cleared s.trq.queue) := by
  show (s.trq.queue.foldl State.purgeRecord s).lot.table.map Lot.toDeliveryPoint = _
  rw [(State.foldl_purgeRecord s.trq.queue s).lot, List.map_map]
  rfl

/-! ### A lot purged -/

/-- The order of a lot and what it has stacked: no purge changes it. -/
def Lot.order (l : Lot) : LotKey × Fin 16 × Nat × Nat × Bool × LotState × Nat :=
  (l.key, l.format, l.target, l.batchSize, l.makeUp, l.state, l.stacked)

theorem Lot.purgedBy_order (q : List Record) (l : Lot) : (l.purgedBy q).order = l.order := by
  induction q generalizing l with
  | nil => rfl
  | cons r rest ih =>
    rw [Lot.purgedBy_cons, ih]
    split <;> rfl

theorem Lot.cleared_order (q : List Record) (l : Lot) : (l.cleared q).order = l.order := by
  have hpoint : ∀ x : Lot, x.toDeliveryPoint.order = x.order := fun x => by
    unfold Lot.toDeliveryPoint
    split <;> rfl
  exact (hpoint _).trans (l.purgedBy_order q)

theorem Lot.cleared_key (q : List Record) (l : Lot) : (l.cleared q).key = l.key := congrArg Prod.fst (l.cleared_order q)

theorem Lot.cleared_state (q : List Record) (l : Lot) : (l.cleared q).state = l.state :=
  congrArg (fun x => x.2.2.2.2.2.1) (l.cleared_order q)

theorem Lot.purgedBy_inFlight (q : List Record) (l : Lot) :
    (l.purgedBy q).inFlight = l.inFlight - q.countP fun r => r.lot == l.key := by
  induction q generalizing l with
  | nil => rfl
  | cons r rest ih =>
    rw [Lot.purgedBy_cons, List.countP_cons]
    by_cases h : l.key = r.lot
    · rw [if_pos h, ih]
      show l.inFlight - 1 - rest.countP (fun x => x.lot == l.key) = _
      rw [if_pos (by simp [h])]
      omega
    · rw [if_neg h, ih, if_neg (by simpa using fun he => h he.symm), Nat.add_zero]

theorem Lot.cleared_inFlight (q : List Record) (l : Lot) :
    (l.cleared q).inFlight = l.inFlight - q.countP fun r => r.lot == l.key := by
  rw [← l.purgedBy_inFlight q, Lot.cleared, Lot.toDeliveryPoint]
  split <;> rfl

/-- The counts of a purged lot, while its purged count has room (R142). -/
theorem Lot.purgedBy_eq (q : List Record) (l : Lot)
    (h : l.purged + (q.countP fun r => r.lot == l.key) ≤ 4294967295) : ∃ batch, l.purgedBy q = { l with
      purged := l.purged + q.countP fun r => r.lot == l.key
      inFlight := l.inFlight - q.countP fun r => r.lot == l.key
      finalGood := l.finalGood - q.countP fun r => r.lot == l.key && r.final == some .good
      openBatch := batch } := by
  induction q generalizing l with
  | nil => exact ⟨l.openBatch, rfl⟩
  | cons r rest ih =>
    rw [Lot.purgedBy_cons]
    simp only [List.countP_cons] at h ⊢
    by_cases hlot : l.key = r.lot
    · rw [if_pos hlot]
      have hsame : (r.lot == l.key) = true := by simp [hlot]
      simp only [hsame, if_true, Bool.true_and] at h ⊢
      have hup : countUp l.purged = l.purged + 1 := if_pos (by omega)
      obtain ⟨batch, hrest⟩ := ih (l.purge r.withdrawn) (by
        show countUp l.purged + rest.countP (fun x => x.lot == l.key) ≤ 4294967295
        omega)
      have hgood : (l.purge r.withdrawn).finalGood = if r.final = some .good then l.finalGood - 1 else l.finalGood := rfl
      refine ⟨batch, hrest.trans ?_⟩
      rw [hgood]
      show { l with purged := countUp l.purged + _, inFlight := l.inFlight - 1 - _, finalGood := _, openBatch := _ } = _
      rw [hup, Nat.sub_sub, Nat.add_comm 1, Nat.add_assoc, Nat.add_comm 1]
      congr 1
      by_cases hfinal : r.final = some .good
      · simp only [hfinal, if_true, beq_self_eq_true]
        show l.finalGood - 1 - rest.countP (fun x => x.lot == l.key && x.final == some .good) = _
        omega
      · have hnot : (r.final == some .good) = false := beq_false_of_ne hfinal
        simp only [hfinal, hnot, if_false, Bool.false_eq_true, Nat.add_zero]
        rfl
    · have hother : (r.lot == l.key) = false := beq_false_of_ne fun he => hlot he.symm
      rw [if_neg hlot]
      simp only [hother, Bool.false_and, Bool.false_eq_true, if_false, Nat.add_zero] at h ⊢
      exact ih l h

/-- A lot at its delivery point, its records purged (R126, R142). -/
theorem Lot.cleared_eq {q : List Record} {l : Lot} (hflight : l.inFlight = q.countP fun r => r.lot == l.key)
    (h : l.purged + l.inFlight < 4294967296) :
    let good := q.countP fun r => r.lot == l.key && r.final == some .good
    l.cleared q = { l with
      inFlight := 0, purged := l.purged + l.inFlight, finalGood := l.finalGood - good
      openBatch := if l.delivered = 0 then none else some (l.completed + 1, l.delivered)
      nextBatch := if l.delivered = 0 then l.completed + 1 else l.completed + 2 } := by
  intro good
  obtain ⟨batch, hpurged⟩ := l.purgedBy_eq q (by omega)
  rw [← hflight, Nat.sub_self] at hpurged
  rw [Lot.cleared, hpurged, Lot.toDeliveryPoint]
  dsimp only
  by_cases hnone : l.delivered = 0
  · rw [if_neg (by omega), if_pos hnone, if_pos hnone]
  · rw [if_pos (by omega), if_neg hnone, if_neg hnone]

/-! ### The ends of the CLOSED lots (R142) -/

/-- The make-up lot of a lot (R140). -/
def Lot.child (l : Lot) : Lot := Lot.create (makeUpKey l.key) l.format (l.target - l.stacked) l.batchSize true

theorem Lot.cleared_child (q : List Record) (l : Lot) : (l.cleared q).child = l.child := by
  have horder := l.cleared_order q
  simp only [Lot.order, Prod.mk.injEq] at horder
  obtain ⟨hkey, hformat, htarget, hbatch, -, -, hstacked⟩ := horder
  rw [Lot.child, hkey, hformat, htarget, hbatch, hstacked, Lot.child]

/-- The CLOSED lots at the head of the table end in order; the make-up lots stand ahead of the QUEUED ones. -/
theorem endAll_table (cutting queued : List Lot) (hcutting : ∀ l ∈ cutting, l.state ≠ .queued)
    (hqueued : ∀ l ∈ queued, l.state = .queued) :
    ∀ (closed made : List Lot) (ended : Nat) (s : State), s.lot.table = closed ++ cutting ++ made ++ queued →
      (s.lot.table.map Lot.key).Nodup → (∀ l ∈ closed, l.state = .closed) → (∀ l ∈ made, l.state = .queued) →
      (endAll (closed.map Lot.key) made.length ended s).2 = ended + closed.length ∧
      ∃ parents : List Lot, parents.Sublist closed ∧ (∀ l ∈ parents, l.makeUp = true ∧ l.stacked < l.target) ∧
        (endAll (closed.map Lot.key) made.length ended s).1.lot.table =
          cutting ++ (made ++ parents.map Lot.child) ++ queued
  | [], made, ended, s, htable, _, _, _ => ⟨rfl, [], .slnil, by simp, by simpa [endAll] using htable⟩
  | c :: closed, made, ended, s, htable, hkeys, hclosed, hmade => by
    have hrest : (s.lot.table.filter fun x => x.key ≠ c.key) = closed ++ cutting ++ made ++ queued := by
      have hothers : ∀ x ∈ closed ++ cutting ++ made ++ queued, x.key ≠ c.key := by
        rw [htable, List.cons_append, List.cons_append, List.cons_append, List.map_cons, List.nodup_cons] at hkeys
        exact fun x hx he => hkeys.1 (List.mem_map.2 ⟨x, hx, he⟩)
      rw [htable, List.cons_append, List.cons_append, List.cons_append, List.filter_cons_of_neg (by simp)]
      exact List.filter_eq_self.2 fun x hx => decide_eq_true (hothers x hx)
    have hfound : s.findLot c.key = some c := State.findLot_first (before := [])
      (by rw [htable, List.cons_append, List.cons_append, List.cons_append]; rfl) rfl (by simp)
    have hends := State.endLot_endsAs hfound made.length
    have hclosed' : ∀ l ∈ closed, l.state = .closed := fun l hl => hclosed l (List.mem_cons_of_mem _ hl)
    have hkeysRest : ((closed ++ cutting ++ made ++ queued).map Lot.key).Nodup := by
      rw [← hrest]
      exact hkeys.sublist (List.filter_sublist.map _)
    rw [List.map_cons]
    show (endAll (closed.map Lot.key) (if (s.endLot c.key made.length).2 then made.length + 1 else made.length) (ended + 1)
        (s.endLot c.key made.length).1).2 = _ ∧ _
    rw [show endAll (c.key :: closed.map Lot.key) made.length ended s =
      endAll (closed.map Lot.key) (if (s.endLot c.key made.length).2 then made.length + 1 else made.length) (ended + 1)
        (s.endLot c.key made.length).1 from rfl]
    rcases hends with ⟨hno, hleft⟩ | ⟨hyes, hplaced, hmakeUp, hshort, hfree⟩
    · rw [hno]
      have hleft' := hleft.trans hrest
      obtain ⟨hcount, parents, hsub, hparents, hresult⟩ := endAll_table cutting queued hcutting hqueued closed made (ended + 1)
        (s.endLot c.key made.length).1 hleft' (by rw [hleft']; exact hkeysRest) hclosed' hmade
      exact ⟨by rw [List.length_cons]; exact hcount.trans (by omega), parents, hsub.cons c, hparents, hresult⟩
    · rw [hyes]
      rw [hrest] at hplaced hfree
      have hplaced' : (s.endLot c.key made.length).1.lot.table = closed ++ cutting ++ (made ++ [c.child]) ++ queued := by
        refine hplaced.trans ((placeMakeUp_at c.child (closed ++ cutting) made queued made.length ?_ hmade le_rfl
          (fun _ => rfl) fun x hx => hqueued x (List.mem_of_mem_head? hx)).trans (by simp))
        intro x hx
        rcases List.mem_append.1 hx with hx | hx
        · exact fun hq => LotState.noConfusion ((hclosed' x hx).symm.trans hq)
        · exact hcutting x hx
      have hkeys' : ((s.endLot c.key made.length).1.lot.table.map Lot.key).Nodup := by
        have hperm : (closed ++ cutting ++ (made ++ [c.child]) ++ queued).Perm
            (c.child :: (closed ++ cutting ++ made ++ queued)) := by
          rw [← List.append_assoc, List.append_assoc (_ ++ made)]
          exact List.perm_middle
        rw [hplaced', (hperm.map Lot.key).nodup_iff, List.map_cons, List.nodup_cons]
        refine ⟨fun hmem => ?_, hkeysRest⟩
        obtain ⟨x, hx, hxk⟩ := List.mem_map.1 hmem
        exact hfree x hx hxk
      have hmade' : ∀ l ∈ made ++ [c.child], l.state = .queued := fun l hl =>
        (List.mem_append.1 hl).elim (hmade l) fun h => by rw [List.mem_singleton.1 h]; rfl
      have hlength : made.length + 1 = (made ++ [c.child]).length := by simp
      obtain ⟨hcount, parents, hsub, hparents, hresult⟩ := endAll_table cutting queued hcutting hqueued closed
        (made ++ [c.child]) (ended + 1) (s.endLot c.key made.length).1 hplaced' hkeys' hclosed' hmade'
      rw [if_pos rfl, hlength]
      refine ⟨by rw [List.length_cons]; exact hcount.trans (by omega), c :: parents, hsub.cons_cons c, ?_, ?_⟩
      · rintro l (_ | ⟨_, hl⟩)
        · exact ⟨hmakeUp, hshort⟩
        · exact hparents l hl
      · rw [hresult, List.map_cons, List.append_assoc made]
        rfl

/-- An ordered table is its CLOSED lots, its CUTTING lots, its QUEUED lots (R131). -/
theorem table_split {table : List Lot} (h : (table.map fun l => l.state.rank).Pairwise fun a b => a ≤ b) :
    table = (table.filter fun l => l.state == .closed) ++ (table.filter fun l => l.state == .cutting) ++
      table.filter fun l => l.state == .queued := by
  induction table with
  | nil => rfl
  | cons l rest ih =>
    rw [List.map_cons, List.pairwise_cons] at h
    obtain ⟨hhead, hrest⟩ := h
    have habove : ∀ x ∈ rest, l.state.rank ≤ x.state.rank := fun x hx => hhead _ (List.mem_map.2 ⟨x, hx, rfl⟩)
    have hnone {st : LotState} (hst : st.rank < l.state.rank) : (rest.filter fun x => x.state == st) = [] :=
      List.filter_eq_nil_iff.2 fun x hx he => by
        have hle := habove x hx
        rw [beq_iff_eq.1 he] at hle
        omega
    have hsplit := ih hrest
    cases hstate : l.state with
    | closed => simpa [List.filter_cons, hstate] using hsplit
    | cutting =>
      have hclosed := hnone (st := .closed) (by rw [hstate]; decide)
      rw [hclosed] at hsplit
      simpa [List.filter_cons, hstate, hclosed] using hsplit
    | queued =>
      have hclosed := hnone (st := .closed) (by rw [hstate]; decide)
      have hcutting := hnone (st := .cutting) (by rw [hstate]; decide)
      rw [hclosed, hcutting] at hsplit
      simpa [List.filter_cons, hstate, hclosed, hcutting] using hsplit

/-! ### LINE_CLEAR -/

/-- Effects that wait are absorbed in SAFE. -/
theorem State.settle_absorbed {s : State} (h : s.sup.line = .safe) : s.settle = s.taken := by
  have hone (d : Deferred) {t : State} (ht : t.sup.line = .safe) : t.applyEffect d = t := by
    cases d with
    | stop r => exact State.stop_absorbed r t (by rw [ht]; exact LineState.noConfusion)
    | halt r => exact State.halt_safe r t ht
  have hfold (l : List Deferred) {t : State} (ht : t.sup.line = .safe) : l.foldl State.applyEffect t = t := by
    induction l with
    | nil => rfl
    | cons d rest ih => rw [List.foldl_cons, hone d ht, ih]
  have htaken : s.applyEffects = s.taken := hfold s.sup.deferred (t := s.taken) h
  rw [State.settle, htaken]
  exact hfold [] (t := s.taken) h

/-- The state of LINE_CLEAR after the ends of the CLOSED lots, and how many there were. -/
def State.emptied (s : State) : State × Nat := endAll s.purge.endingKeys 0 0 s.purge

/-- The line back at IDLE with its reason, and the notice of it. -/
def State.idled (s : State) : State := (s.taken.setLine .idle s.sup.reason).lineNotice .safe

theorem lineClearOwner_refused {s : State} (h : s.sup.line ≠ .safe) : lineClearOwner s = (s, .plain .badState) := if_pos h

/-- What the purge leaves of a state and takes from it. -/
theorem State.purge_frame (s : State) :
    s.purge.sup = s.sup ∧ s.purge.rif = s.rif ∧ s.purge.pos = s.pos ∧ s.purge.store = s.store ∧ s.purge.cam = s.cam ∧
      s.purge.trq = ⟨[], s.trq.serial⟩ ∧
      (∀ m, m ∈ s.purge.reg.marks ↔ m ∈ s.reg.marks ∧ ∀ r ∈ s.trq.queue, r.serial ≠ m.serial) ∧
      s.purge.reg = { s.reg with marks := s.purge.reg.marks, openCandidate := s.purge.reg.openCandidate } ∧
      ∀ i, s.purge.chkInput i = { s.chkInput i with
        pending := (s.chkInput i).pending.filter fun p => s.trq.queue.all fun r => r.serial != p.serial } := by
  have h := State.foldl_purgeRecord s.trq.queue s
  unfold State.purge
  generalize s.trq.queue.foldl State.purgeRecord s = t at h
  have hframe := h.frame
  refine ⟨?_, ?_, ?_, ?_, ?_, h.trq.trans (by rw [List.drop_length]), h.marks, h.reg, h.checks⟩
  all_goals rw [hframe]

theorem lineClearOwner_safe {s : State} (h : s.sup.line = .safe) :
    lineClearOwner s = (s.emptied.1.idled,
      .one .accepted [BitVec.ofNat 8 s.trq.queue.length, BitVec.ofNat 8 s.emptied.2]) := by
  have hline : s.emptied.1.sup.line = .safe := (endAll_tells _ 0 0 s.purge).line.trans (by rw [s.purge_frame.1, h])
  have howner : lineClearOwner s = ((s.emptied.1.settle.setLine .idle s.emptied.1.settle.sup.reason).lineNotice .safe,
      .one .accepted (bigEndian 1 s.trq.queue.length ++ bigEndian 1 s.emptied.2)) := if_neg (not_not.2 h)
  rw [howner, State.settle_absorbed hline, bigEndian_one, bigEndian_one]
  rfl

/-- What the return to IDLE leaves of a state. -/
theorem State.idled_frame (s : State) :
    s.idled.Settled ∧ s.idled.sup.line = .idle ∧ s.idled.sup.reason = s.sup.reason ∧
      s.idled = { s with sup := s.idled.sup, rif := s.idled.rif } ∧
      (s.rif.tx ≠ .idle → ∃ told, s.idled.rif = { s.rif with management := s.rif.management ++ told }) := by
  have hnoticed := State.Tells.notice (.lineState .idle .safe s.sup.reason s.pos.state s.pitch)
    (s.taken.setLine .idle s.sup.reason)
  have hframe := State.notice_eq (.lineState .idle .safe s.sup.reason s.pos.state s.pitch)
    (s.taken.setLine .idle s.sup.reason)
  have hdeferred := State.notice_sup_deferred (.lineState .idle .safe s.sup.reason s.pos.state s.pitch)
    (s.taken.setLine .idle s.sup.reason)
  change State.Tells _ s.idled at hnoticed
  change s.idled = _ at hframe
  change s.idled.sup.deferred = _ at hdeferred
  generalize s.idled = u at hnoticed hframe hdeferred
  refine ⟨hdeferred, hnoticed.line, hnoticed.reason, ?_, hnoticed.wire⟩
  rw [hframe]
  rfl

/-- What LINE_CLEAR leaves of the other blocks and makes of the line. -/
theorem State.emptied_frame (s : State) :
    let u := s.emptied.1.idled
    u.Settled ∧ u.sup.line = .idle ∧ u.sup.reason = s.sup.reason ∧ u.trq = ⟨[], s.trq.serial⟩ ∧ u.pos = s.pos ∧
      u.store = s.store ∧ u.cam = s.cam ∧
      (∀ m, m ∈ u.reg.marks ↔ m ∈ s.reg.marks ∧ ∀ r ∈ s.trq.queue, r.serial ≠ m.serial) ∧
      u.reg = { s.reg with marks := u.reg.marks, openCandidate := u.reg.openCandidate } ∧
      (∀ i, u.chkInput i = { s.chkInput i with
        pending := (s.chkInput i).pending.filter fun p => s.trq.queue.all fun r => r.serial != p.serial }) ∧
      u.lot = s.emptied.1.lot ∧
      (s.rif.tx ≠ .idle → ∃ told, u.rif = { s.rif with management := s.rif.management ++ told }) := by
  obtain ⟨hsup, hrif, hpos, hstore, hcam, htrq, hmarks, hreg, hchecks⟩ := s.purge_frame
  have hended : s.purge.Tells s.emptied.1 := endAll_tells _ 0 0 s.purge
  obtain ⟨hsettled, hidle, hreason, hframe, hwire⟩ := s.emptied.1.idled_frame
  intro u
  change u.Settled at hsettled
  change u.sup.line = _ at hidle
  change u.sup.reason = _ at hreason
  change u = _ at hframe
  change _ → ∃ told, u.rif = _ at hwire
  generalize u = u at *
  generalize s.emptied.1 = e at *
  generalize s.purge = p at *
  have hblocks : u.trq = p.trq ∧ u.pos = p.pos ∧ u.store = p.store ∧ u.cam = p.cam ∧ u.reg = p.reg ∧ u.chk = p.chk ∧
      u.lot = e.lot := by
    rw [hframe, hended.frame]
    exact ⟨rfl, rfl, rfl, rfl, rfl, rfl, rfl⟩
  obtain ⟨htrq', hpos', hstore', hcam', hreg', hchk', hlot'⟩ := hblocks
  refine ⟨hsettled, hidle, hreason.trans (hended.reason.trans (by rw [hsup])), htrq'.trans htrq, hpos'.trans hpos,
    hstore'.trans hstore, hcam'.trans hcam, by rw [hreg']; exact hmarks, by rw [hreg']; exact hreg, fun i => ?_, hlot',
    fun hbusy => ?_⟩
  · rw [State.chkInput, hchk']
    exact hchecks i
  · obtain ⟨told, htold⟩ := hended.wire (by rw [hrif]; exact hbusy)
    rw [hrif] at htold
    obtain ⟨more, hmore⟩ := hwire (by rw [htold]; exact hbusy)
    exact ⟨told ++ more, by rw [hmore, htold, List.append_assoc]⟩

/-- The lots LINE_CLEAR leaves: the CUTTING lot, the make-up lots of CLOSED ones, the other QUEUED lots. -/
theorem State.emptied_lots {s : State} (hordered : s.LotsOrdered) (hcounted : s.FlightsCounted) :
    let q := s.trq.queue
    s.emptied.2 = (s.lot.table.countP fun l => l.state == .closed) ∧
    ∃ parents : List Lot, parents.Sublist (s.lot.table.filter fun l => l.state == .closed) ∧
      (∀ l ∈ parents, l.makeUp = true ∧ l.stacked < l.target) ∧
      s.emptied.1.lot.table = (s.lot.table.filter fun l => l.state == .cutting).map (Lot.cleared q) ++
        parents.map Lot.child ++ (s.lot.table.filter fun l => l.state == .queued).map (Lot.cleared q) := by
  intro q
  have hsplit := table_split hordered.1
  have htable := s.purge_table
  have hof (st : LotState) : ∀ l ∈ (s.lot.table.filter fun l => l.state == st).map (Lot.cleared q), l.state = st := by
    intro l hl
    obtain ⟨x, hx, rfl⟩ := List.mem_map.1 hl
    rw [Lot.cleared_state]
    exact beq_iff_eq.1 (List.mem_filter.1 hx).2
  have hkeys : s.purge.endingKeys = ((s.lot.table.filter fun l => l.state == .closed).map (Lot.cleared q)).map Lot.key := by
    rw [State.endingKeys, htable, List.filter_map]
    congr 2
    refine List.filter_congr fun l hl => ?_
    have hzero : (l.cleared q).inFlight = 0 := by
      rw [Lot.cleared_inFlight, (hcounted.2 l hl).1, Nat.sub_self]
    show ((l.cleared s.trq.queue).state == .closed && (l.cleared s.trq.queue).inFlight == 0) = _
    rw [Lot.cleared_state, hzero, beq_self_eq_true, Bool.and_true]
  have hpurged : s.purge.lot.table = (s.lot.table.filter fun l => l.state == .closed).map (Lot.cleared q) ++
      (s.lot.table.filter fun l => l.state == .cutting).map (Lot.cleared q) ++ [] ++
      (s.lot.table.filter fun l => l.state == .queued).map (Lot.cleared q) := by
    rw [htable]
    conv_lhs => rw [hsplit]
    rw [List.map_append, List.map_append, List.append_nil]
  have hnodup : (s.purge.lot.table.map Lot.key).Nodup := by
    have hsame : s.purge.lot.table.map Lot.key = s.lot.table.map Lot.key := by
      rw [htable, List.map_map]
      exact List.map_congr_left fun l _ => l.cleared_key q
    rw [hsame]
    exact hordered.2.2
  obtain ⟨hcount, cleared, hsub, hparents, hresult⟩ := endAll_table _ _
    (fun l hl hq => LotState.noConfusion ((hof .cutting l hl).symm.trans hq)) (hof .queued) _ [] 0 s.purge hpurged hnodup
    (hof .closed) (by simp)
  obtain ⟨parents, hsub', rfl⟩ := List.sublist_map_iff.1 hsub
  rw [State.emptied, hkeys]
  refine ⟨?_, parents, hsub', fun l hl => ?_, ?_⟩
  · rw [List.countP_eq_length_filter]
    exact hcount.trans (by rw [Nat.zero_add, List.length_map])
  · have horder := l.cleared_order q
    simp only [Lot.order, Prod.mk.injEq] at horder
    obtain ⟨-, -, htarget, -, hmakeUp, -, hstacked⟩ := horder
    rw [← hmakeUp, ← hstacked, ← htarget]
    exact hparents _ (List.mem_map_of_mem hl)
  · refine hresult.trans ?_
    rw [List.nil_append, List.map_map]
    exact congrArg (fun kids => _ ++ kids ++ _) (List.map_congr_left fun l _ => l.cleared_child q)

/-- Settles O42: the purge record by record, the ends of the CLOSED lots in table order, then the line to IDLE. -/
theorem lineClearPurges : Obligations.LineClearPurges := by
  intro src tag s htakes hs run
  have hservice : service (.lineClear src tag) = some ⟨src, 16, tag, fun _ => 1, lineClearOwner, true⟩ := rfl
  refine ⟨fun hline => ?_, fun hline => ?_⟩
  · exact exec_answered hservice htakes (lineClearOwner_refused (s := s.serving 1) hline) rfl fun _ => hs
  · obtain ⟨hsettled, hidle, hreason, htrq, hpos, hstore, hcam, hmarks, hreg, hchk, hlot, hwire⟩ :=
      State.emptied_frame (s.serving 1)
    have howner := lineClearOwner_safe (s := s.serving 1) hline
    have hlots := State.emptied_lots (s := s.serving 1)
    generalize (s.serving 1).emptied.1.idled = u at *
    refine ⟨_, exec_replied hservice htakes howner fun _ => hsettled, hidle, hreason, htrq, hpos, hstore, hcam, hmarks, hreg,
      hchk, fun hbusy => ?_, fun hordered hcounted => ?_⟩
    · obtain ⟨told, hrif⟩ := hwire hbusy
      rw [Reply.one, State.replied_rif (by rw [hrif]; exact hbusy), hrif]
      rfl
    · obtain ⟨hcount, parents, hsub, hparents, htable⟩ := hlots hordered hcounted
      rw [← hlot] at htable
      change u.lot.table = (s.lot.table.filter fun l => l.state == .cutting).map (Lot.cleared s.trq.queue) ++
        parents.map Lot.child ++ (s.lot.table.filter fun l => l.state == .queued).map (Lot.cleared s.trq.queue) at htable
      have hchild : ∀ l : Lot, l.child = ⟨⟨l.key.id, min 15 (l.key.makeUp + 1)⟩, l.format, l.target - l.stacked, l.batchSize,
          true, .queued, 0, 0, 0, 0, 0, 0, 0, none, 1, 0, 0, false⟩ := fun l => by
        rw [Lot.child, makeUpKey_eq]
        rfl
      have hstays {l : Lot} (hl : l ∈ s.lot.table) (hopen : l.state ≠ .closed) : l.cleared s.trq.queue ∈ u.lot.table := by
        rw [htable]
        cases hstate : l.state with
        | closed => exact absurd hstate hopen
        | cutting => exact List.mem_append_left _ (List.mem_append_left _
            (List.mem_map_of_mem (List.mem_filter.2 ⟨hl, beq_iff_eq.2 hstate⟩)))
        | queued => exact List.mem_append_right _ (List.mem_map_of_mem (List.mem_filter.2 ⟨hl, beq_iff_eq.2 hstate⟩))
      refine ⟨fun l hl hclosed => ?_, fun l hl hopen hroom => ?_, ⟨parents, hsub, hparents, ?_, fun l hl => ?_⟩,
        fun hbusy => ?_⟩
      · have hof {st : LotState} {x : Lot}
            (hx : x ∈ (s.lot.table.filter fun l => l.state == st).map (Lot.cleared s.trq.queue)) : x.state = st := by
          obtain ⟨y, hy, rfl⟩ := List.mem_map.1 hx
          rw [Lot.cleared_state]
          exact beq_iff_eq.1 (List.mem_filter.1 hy).2
        change l ∈ u.lot.table at hl
        rw [htable] at hl
        rcases List.mem_append.1 hl with hl | hl
        · rcases List.mem_append.1 hl with hl | hl
          · exact LotState.noConfusion ((hof hl).symm.trans hclosed)
          · obtain ⟨p, -, rfl⟩ := List.mem_map.1 hl
            exact LotState.noConfusion hclosed
        · exact LotState.noConfusion ((hof hl).symm.trans hclosed)
      · intro good
        have hcleared := Lot.cleared_eq (hcounted.2 l hl).1 hroom
        have hmem := hstays hl hopen
        rw [hcleared] at hmem
        exact hmem
      · change u.lot.table.map Lot.key = _
        rw [htable, List.map_append, List.map_append, List.map_map, List.map_map, List.map_map]
        have hkeys (st : LotState) : ((s.lot.table.filter fun l => l.state == st).map (Lot.key ∘ Lot.cleared s.trq.queue)) =
            (s.lot.table.filter fun l => l.state == st).map Lot.key :=
          List.map_congr_left fun l _ => l.cleared_key s.trq.queue
        rw [hkeys, hkeys]
        congr 2
        exact List.map_congr_left fun l _ => makeUpKey_eq l.key
      · change _ ∈ u.lot.table
        rw [htable, ← hchild]
        exact List.mem_append_left _ (List.mem_append_right _ (List.mem_map_of_mem hl))
      · obtain ⟨told, hrif⟩ := hwire hbusy
        rw [Reply.one, State.replied_rif (by rw [hrif]; exact hbusy), hrif, hcount]
        exact ⟨told, rfl⟩

end Sys2Proof.Machine
